-- ==== Sys2Proof/Word.lean ====
section
/-! DEFINITION. The words of the block: frame bytes, 32-bit register words, the transaction word. -/

namespace Sys2Proof

/-- A frame byte (10_state.md R35) or a segment reading (00_scope.md R12). -/
abbrev Byte := BitVec 8

/-- One word of the register window (20_memory.md R80, R83). -/
abbrev Word := BitVec 32

/-- A pulse width, a wait count, a deadline or a threshold, in microsecond ticks (10_state.md R33, R34, R38, R40). -/
abbrev Ticks := BitVec 16

/-- The transaction word `TW = we, addr[5:0], wdata[31:0]` (30_encoding.md R100). -/
abbrev TransWord := BitVec 39

end Sys2Proof
end

