-- ==== Sys2Proof/Syntax.lean ====
section
/-! DEFINITION. The host operations: one constructor per row of spec/opcode_table.json (30_encoding.md R102, R103).
Operands are those of the rows' rules (30_encoding.md R101): ignored bits of the transaction word are no operands. -/

namespace Sys2Proof

/-- A host transaction, decoded. -/
inductive Instr where
  /-- NOP, CTRL command 0x00 (43_host_commands.md R282) -/
  | nop
  /-- START, CTRL command 0x01 (R283) -/
  | start
  /-- CLEAR_STATS, CTRL command 0x02 (R284) -/
  | clearStats
  /-- CMD_RESERVED_03 (R285) -/
  | cmdReserved03
  /-- CMD_RESERVED_04_07: `cmd` is `wdata[7:0]` (R285) -/
  | cmdReserved04to07 (cmd : BitVec 8)
  /-- CMD_RESERVED_08_0F (R285) -/
  | cmdReserved08to0F (cmd : BitVec 8)
  /-- CMD_RESERVED_10_1F (R285) -/
  | cmdReserved10to1F (cmd : BitVec 8)
  /-- CMD_RESERVED_20_3F (R285) -/
  | cmdReserved20to3F (cmd : BitVec 8)
  /-- CMD_RESERVED_40_7F (R285) -/
  | cmdReserved40to7F (cmd : BitVec 8)
  /-- CMD_RESERVED_80_FF (R285) -/
  | cmdReserved80toFF (cmd : BitVec 8)
  /-- WR_STATUS: `clearIgn` is `wdata[2]` (R288) -/
  | wrStatus (clearIgn : Bool)
  /-- WR_CONFIG: `deadline` is `wdata[15:0]`, `calPresent` is `wdata[16]` (R286) -/
  | wrConfig (deadline : Ticks) (calPresent : Bool)
  /-- WR_THRESH: `thresh` is `wdata[15:0]` (R287) -/
  | wrThresh (thresh : Ticks)
  /-- WR_RO_10_1C: a write to RESULT, LEVEL, NR_CNT or PRE_CNT; `word` is `addr[5:2]` (R289) -/
  | wrRo10to1C (word : BitVec 4)
  /-- WR_RO_20_3C: a write to CK_CNT, PARAM, 0x28, 0x2C or FRAME0..3; `word` is `addr[5:2]` (R289) -/
  | wrRo20to3C (word : BitVec 4)
  /-- RD_CTRL (R281), as every read below -/
  | rdCtrl
  /-- RD_STATUS -/
  | rdStatus
  /-- RD_CONFIG -/
  | rdConfig
  /-- RD_THRESH -/
  | rdThresh
  /-- RD_RESULT -/
  | rdResult
  /-- RD_LEVEL -/
  | rdLevel
  /-- RD_NR_CNT -/
  | rdNrCnt
  /-- RD_PRE_CNT -/
  | rdPreCnt
  /-- RD_CK_CNT -/
  | rdCkCnt
  /-- RD_PARAM -/
  | rdParam
  /-- RD_RSVD_28 -/
  | rdRsvd28
  /-- RD_RSVD_2C -/
  | rdRsvd2C
  /-- RD_FRAME0 -/
  | rdFrame0
  /-- RD_FRAME1 -/
  | rdFrame1
  /-- RD_FRAME2 -/
  | rdFrame2
  /-- RD_FRAME3 -/
  | rdFrame3
  deriving DecidableEq, Repr

end Sys2Proof
end

