-- ==== Sys2Proof/WellFormed.lean ====
section
/-! DEFINITION. Which instruction terms a transaction word can stand for. -/

namespace Sys2Proof

/-- `cmd` lies in the row's range of reserved command codes (30_encoding.md R103). -/
def cmdBetween (lo hi cmd : BitVec 8) : Bool := decide (lo ≤ cmd) && decide (cmd ≤ hi)

/-- `word = addr[5:2]` lies in the row's range of word offsets (20_memory.md R81). -/
def wordBetween (lo hi word : BitVec 4) : Bool := decide (lo ≤ word) && decide (word ≤ hi)

/-- The operand of a row that covers several command codes or words lies inside that row (30_encoding.md R102, R103). -/
def Instr.wellFormed : Instr → Bool
  | .nop | .start | .clearStats | .cmdReserved03 => true
  | .cmdReserved04to07 cmd => cmdBetween 0x04#8 0x07#8 cmd
  | .cmdReserved08to0F cmd => cmdBetween 0x08#8 0x0F#8 cmd
  | .cmdReserved10to1F cmd => cmdBetween 0x10#8 0x1F#8 cmd
  | .cmdReserved20to3F cmd => cmdBetween 0x20#8 0x3F#8 cmd
  | .cmdReserved40to7F cmd => cmdBetween 0x40#8 0x7F#8 cmd
  | .cmdReserved80toFF cmd => cmdBetween 0x80#8 0xFF#8 cmd
  | .wrStatus _ | .wrConfig _ _ | .wrThresh _ => true
  | .wrRo10to1C word => wordBetween 0x4#4 0x7#4 word
  | .wrRo20to3C word => wordBetween 0x8#4 0xF#4 word
  | .rdCtrl | .rdStatus | .rdConfig | .rdThresh | .rdResult | .rdLevel | .rdNrCnt | .rdPreCnt | .rdCkCnt
  | .rdParam | .rdRsvd28 | .rdRsvd2C | .rdFrame0 | .rdFrame1 | .rdFrame2 | .rdFrame3 => true

/-- A well-formed instruction, as a proposition. -/
abbrev Instr.WellFormed (i : Instr) : Prop := i.wellFormed = true

end Sys2Proof
end

