-- ==== Sys2Proof/Decode.lean ====
section
/-! DEFINITION. The decoder of transaction words, total on all 39 bits (30_encoding.md R100 to R103, R112), the encoder
written from the same formats, the opcode table's rows, and the 5-byte layout the host's table words come in. -/

namespace Sys2Proof

/-- `TW[38]`, 1 for a write (30_encoding.md R100). -/
def twWe (tw : TransWord) : Bool := tw.getLsbD 38

/-- `TW[37:32]`, the byte address (R100). -/
def twAddr (tw : TransWord) : BitVec 6 := tw.extractLsb' 32 6

/-- `TW[31:0]`, the write data (R100). -/
def twWdata (tw : TransWord) : Word := tw.extractLsb' 0 32

/-- `addr[5:2]`, the selected word; `addr[1:0]` are ignored (20_memory.md R82). -/
def addrWord (addr : BitVec 6) : BitVec 4 := addr.extractLsb' 2 4

/-- The transaction word of the bus inputs `we`, `addr`, `wdata` (R100). -/
def packTW (we : Bool) (addr : BitVec 6) (wdata : Word) : TransWord :=
  (BitVec.ofBool we ++ addr ++ wdata).cast (rfl : 1 + 6 + 32 = 39)

/-- The operation of a CTRL write, by its command code `wdata[7:0]` (30_encoding.md R103). -/
def decodeCmd (cmd : BitVec 8) : Instr :=
  if cmd = 0x00#8 then .nop
  else if cmd = 0x01#8 then .start
  else if cmd = 0x02#8 then .clearStats
  else if cmd = 0x03#8 then .cmdReserved03
  else if cmd ≤ 0x07#8 then .cmdReserved04to07 cmd
  else if cmd ≤ 0x0F#8 then .cmdReserved08to0F cmd
  else if cmd ≤ 0x1F#8 then .cmdReserved10to1F cmd
  else if cmd ≤ 0x3F#8 then .cmdReserved20to3F cmd
  else if cmd ≤ 0x7F#8 then .cmdReserved40to7F cmd
  else .cmdReserved80toFF cmd

/-- The operation of a write, by the selected word (43_host_commands.md R290). -/
def decodeWrite (word : BitVec 4) (wdata : Word) : Instr :=
  match word with
  | 0x0#4 => decodeCmd (wdata.extractLsb' 0 8)
  | 0x1#4 => .wrStatus (wdata.getLsbD 2)
  | 0x2#4 => .wrConfig (wdata.extractLsb' 0 16) (wdata.getLsbD 16)
  | 0x3#4 => .wrThresh (wdata.extractLsb' 0 16)
  | 0x4#4 | 0x5#4 | 0x6#4 | 0x7#4 => .wrRo10to1C word
  | _ => .wrRo20to3C word        -- 0x8 .. 0xF

/-- The operation of a read, by the selected word (43_host_commands.md R281). -/
def decodeRead (word : BitVec 4) : Instr :=
  match word with
  | 0x0#4 => .rdCtrl
  | 0x1#4 => .rdStatus
  | 0x2#4 => .rdConfig
  | 0x3#4 => .rdThresh
  | 0x4#4 => .rdResult
  | 0x5#4 => .rdLevel
  | 0x6#4 => .rdNrCnt
  | 0x7#4 => .rdPreCnt
  | 0x8#4 => .rdCkCnt
  | 0x9#4 => .rdParam
  | 0xA#4 => .rdRsvd28
  | 0xB#4 => .rdRsvd2C
  | 0xC#4 => .rdFrame0
  | 0xD#4 => .rdFrame1
  | 0xE#4 => .rdFrame2
  | _ => .rdFrame3               -- 0xF

/-- The decoding order of 30_encoding.md R102: `we` and `addr[5:2]` first, then, for CTRL, `wdata[7:0]`. Total: every
transaction word is some operation, and none is rejected (R112: "Nothing in the block is illegal"). DEDUCED (log 17): the
ignored bits are dropped here. -/
def decode (tw : TransWord) : Instr :=
  if twWe tw then decodeWrite (addrWord (twAddr tw)) (twWdata tw) else decodeRead (addrWord (twAddr tw))

/-! ## The encoder -/

/-- A transaction word at the word-aligned address of `word`, the ignored address bits zero. -/
def encodeAt (we : Bool) (word : BitVec 4) (wdata : Word) : TransWord := packTW we ((word ++ 0#2).cast (rfl : 4 + 2 = 6)) wdata

/-- A CTRL write with command code `cmd`, the ignored `wdata[31:8]` zero (R103). -/
def encodeCmd (cmd : BitVec 8) : TransWord := encodeAt true 0x0#4 ((0#24 ++ cmd).cast (rfl : 24 + 8 = 32))

/-- The transaction word of an instruction, every ignored bit zero (30_encoding.md R100, R101). -/
def encode : Instr → TransWord
  | .nop => encodeCmd 0x00#8
  | .start => encodeCmd 0x01#8
  | .clearStats => encodeCmd 0x02#8
  | .cmdReserved03 => encodeCmd 0x03#8
  | .cmdReserved04to07 cmd => encodeCmd cmd
  | .cmdReserved08to0F cmd => encodeCmd cmd
  | .cmdReserved10to1F cmd => encodeCmd cmd
  | .cmdReserved20to3F cmd => encodeCmd cmd
  | .cmdReserved40to7F cmd => encodeCmd cmd
  | .cmdReserved80toFF cmd => encodeCmd cmd
  | .wrStatus clearIgn => encodeAt true 0x1#4 ((0#29 ++ BitVec.ofBool clearIgn ++ 0#2).cast (rfl : 29 + 1 + 2 = 32))
  | .wrConfig deadline calPresent => encodeAt true 0x2#4 ((0#15 ++ BitVec.ofBool calPresent ++ deadline).cast (rfl : 15 + 1 + 16 = 32))
  | .wrThresh thresh => encodeAt true 0x3#4 ((0#16 ++ thresh).cast (rfl : 16 + 16 = 32))
  | .wrRo10to1C word => encodeAt true word 0#32
  | .wrRo20to3C word => encodeAt true word 0#32
  | .rdCtrl => encodeAt false 0x0#4 0#32
  | .rdStatus => encodeAt false 0x1#4 0#32
  | .rdConfig => encodeAt false 0x2#4 0#32
  | .rdThresh => encodeAt false 0x3#4 0#32
  | .rdResult => encodeAt false 0x4#4 0#32
  | .rdLevel => encodeAt false 0x5#4 0#32
  | .rdNrCnt => encodeAt false 0x6#4 0#32
  | .rdPreCnt => encodeAt false 0x7#4 0#32
  | .rdCkCnt => encodeAt false 0x8#4 0#32
  | .rdParam => encodeAt false 0x9#4 0#32
  | .rdRsvd28 => encodeAt false 0xA#4 0#32
  | .rdRsvd2C => encodeAt false 0xB#4 0#32
  | .rdFrame0 => encodeAt false 0xC#4 0#32
  | .rdFrame1 => encodeAt false 0xD#4 0#32
  | .rdFrame2 => encodeAt false 0xE#4 0#32
  | .rdFrame3 => encodeAt false 0xF#4 0#32

/-- The bits of the transaction word that mean something to this operation; every other bit is ignored
(30_encoding.md R100, R103, R112; the operand lines of 43_host_commands.md R281 to R289). -/
def significantBits : Instr → TransWord
  | .nop | .start | .clearStats | .cmdReserved03 | .cmdReserved04to07 _ | .cmdReserved08to0F _
  | .cmdReserved10to1F _ | .cmdReserved20to3F _ | .cmdReserved40to7F _ | .cmdReserved80toFF _ => 0x7C000000FF#39
  | .wrStatus _ => 0x7C00000004#39
  | .wrConfig _ _ => 0x7C0001FFFF#39
  | .wrThresh _ => 0x7C0000FFFF#39
  | .wrRo10to1C _ | .wrRo20to3C _ => 0x7C00000000#39
  | .rdCtrl | .rdStatus | .rdConfig | .rdThresh | .rdResult | .rdLevel | .rdNrCnt | .rdPreCnt | .rdCkCnt
  | .rdParam | .rdRsvd28 | .rdRsvd2C | .rdFrame0 | .rdFrame1 | .rdFrame2 | .rdFrame3 => 0x7C00000000#39

/-! ## The rows of spec/opcode_table.json -/

/-- One row of the opcode table: a transaction word `tw` is of the row when `tw AND mask = pattern`. -/
structure OpRow where
  mnemonic : String
  pattern  : TransWord
  mask     : TransWord
  deriving DecidableEq, Repr

/-- `tw` is a word of the row. -/
def OpRow.holds (r : OpRow) (tw : TransWord) : Bool := tw &&& r.mask == r.pattern

/-- The rows of CTRL writes. -/
def commandRows : List OpRow :=
  [ ⟨"NOP", 0x4000000000#39, 0x7C000000FF#39⟩,
    ⟨"START", 0x4000000001#39, 0x7C000000FF#39⟩,
    ⟨"CLEAR_STATS", 0x4000000002#39, 0x7C000000FF#39⟩,
    ⟨"CMD_RESERVED_03", 0x4000000003#39, 0x7C000000FF#39⟩,
    ⟨"CMD_RESERVED_04_07", 0x4000000004#39, 0x7C000000FC#39⟩,
    ⟨"CMD_RESERVED_08_0F", 0x4000000008#39, 0x7C000000F8#39⟩,
    ⟨"CMD_RESERVED_10_1F", 0x4000000010#39, 0x7C000000F0#39⟩,
    ⟨"CMD_RESERVED_20_3F", 0x4000000020#39, 0x7C000000E0#39⟩,
    ⟨"CMD_RESERVED_40_7F", 0x4000000040#39, 0x7C000000C0#39⟩,
    ⟨"CMD_RESERVED_80_FF", 0x4000000080#39, 0x7C00000080#39⟩ ]

/-- The rows of the other writes. -/
def writeRows : List OpRow :=
  [ ⟨"WR_STATUS", 0x4400000000#39, 0x7C00000000#39⟩,
    ⟨"WR_CONFIG", 0x4800000000#39, 0x7C00000000#39⟩,
    ⟨"WR_THRESH", 0x4C00000000#39, 0x7C00000000#39⟩,
    ⟨"WR_RO_10_1C", 0x5000000000#39, 0x7000000000#39⟩,
    ⟨"WR_RO_20_3C", 0x6000000000#39, 0x6000000000#39⟩ ]

/-- The rows of reads. -/
def readRows : List OpRow :=
  [ ⟨"RD_CTRL", 0x0000000000#39, 0x7C00000000#39⟩,
    ⟨"RD_STATUS", 0x0400000000#39, 0x7C00000000#39⟩,
    ⟨"RD_CONFIG", 0x0800000000#39, 0x7C00000000#39⟩,
    ⟨"RD_THRESH", 0x0C00000000#39, 0x7C00000000#39⟩,
    ⟨"RD_RESULT", 0x1000000000#39, 0x7C00000000#39⟩,
    ⟨"RD_LEVEL", 0x1400000000#39, 0x7C00000000#39⟩,
    ⟨"RD_NR_CNT", 0x1800000000#39, 0x7C00000000#39⟩,
    ⟨"RD_PRE_CNT", 0x1C00000000#39, 0x7C00000000#39⟩,
    ⟨"RD_CK_CNT", 0x2000000000#39, 0x7C00000000#39⟩,
    ⟨"RD_PARAM", 0x2400000000#39, 0x7C00000000#39⟩,
    ⟨"RD_RSVD_28", 0x2800000000#39, 0x7C00000000#39⟩,
    ⟨"RD_RSVD_2C", 0x2C00000000#39, 0x7C00000000#39⟩,
    ⟨"RD_FRAME0", 0x3000000000#39, 0x7C00000000#39⟩,
    ⟨"RD_FRAME1", 0x3400000000#39, 0x7C00000000#39⟩,
    ⟨"RD_FRAME2", 0x3800000000#39, 0x7C00000000#39⟩,
    ⟨"RD_FRAME3", 0x3C00000000#39, 0x7C00000000#39⟩ ]

/-- The opcode table. -/
def tableRows : List OpRow := commandRows ++ writeRows ++ readRows

/-- The mnemonic of an instruction's row. -/
def Instr.mnemonic : Instr → String
  | .nop => "NOP"
  | .start => "START"
  | .clearStats => "CLEAR_STATS"
  | .cmdReserved03 => "CMD_RESERVED_03"
  | .cmdReserved04to07 _ => "CMD_RESERVED_04_07"
  | .cmdReserved08to0F _ => "CMD_RESERVED_08_0F"
  | .cmdReserved10to1F _ => "CMD_RESERVED_10_1F"
  | .cmdReserved20to3F _ => "CMD_RESERVED_20_3F"
  | .cmdReserved40to7F _ => "CMD_RESERVED_40_7F"
  | .cmdReserved80toFF _ => "CMD_RESERVED_80_FF"
  | .wrStatus _ => "WR_STATUS"
  | .wrConfig _ _ => "WR_CONFIG"
  | .wrThresh _ => "WR_THRESH"
  | .wrRo10to1C _ => "WR_RO_10_1C"
  | .wrRo20to3C _ => "WR_RO_20_3C"
  | .rdCtrl => "RD_CTRL"
  | .rdStatus => "RD_STATUS"
  | .rdConfig => "RD_CONFIG"
  | .rdThresh => "RD_THRESH"
  | .rdResult => "RD_RESULT"
  | .rdLevel => "RD_LEVEL"
  | .rdNrCnt => "RD_NR_CNT"
  | .rdPreCnt => "RD_PRE_CNT"
  | .rdCkCnt => "RD_CK_CNT"
  | .rdParam => "RD_PARAM"
  | .rdRsvd28 => "RD_RSVD_28"
  | .rdRsvd2C => "RD_RSVD_2C"
  | .rdFrame0 => "RD_FRAME0"
  | .rdFrame1 => "RD_FRAME1"
  | .rdFrame2 => "RD_FRAME2"
  | .rdFrame3 => "RD_FRAME3"

/-! ## Words laid out as bytes

DESIGN CHOICE (log 5): the bus presents the 39 bits at once; only the host's table words are laid out, as five bytes, the
least significant first, bit 39 zero. -/

/-- Why a list of bytes holds no transaction word. -/
inductive DecodeRefusal where
  /-- fewer than five bytes are left. Safe: nothing runs -/
  | truncated
  /-- bit 39 is set, which no transaction word has (30_encoding.md R100). Safe: nothing runs -/
  | notATransactionWord
  deriving DecidableEq, Repr

/-- Read one transaction from the front of a byte list, and give back the rest. -/
def decodeBytes : List Byte → Except DecodeRefusal (Instr × List Byte)
  | b0 :: b1 :: b2 :: b3 :: b4 :: rest =>
    let v : BitVec 40 := (b4 ++ b3 ++ b2 ++ b1 ++ b0).cast (rfl : 8 + 8 + 8 + 8 + 8 = 40)
    if v.getLsbD 39 then .error .notATransactionWord else .ok (decode (v.extractLsb' 0 39), rest)
  | _ => .error .truncated

/-- The five bytes of a number below 2^40, the least significant first. -/
def tableBytes (v : Nat) : List Byte :=
  [BitVec.ofNat 8 v, BitVec.ofNat 8 (v / 2 ^ 8), BitVec.ofNat 8 (v / 2 ^ 16), BitVec.ofNat 8 (v / 2 ^ 24),
   BitVec.ofNat 8 (v / 2 ^ 32)]

/-- The instruction the decoder reads from a table word of `nbits` bits; the bits above `nbits` are zero. -/
def decodeTableWord (nbits w : Nat) : Option Instr :=
  let v := w % 2 ^ nbits
  if v < 2 ^ 40 then
    match decodeBytes (tableBytes v) with
    | .ok (i, _) => some i
    | .error _ => none
  else none

end Sys2Proof
end

