-- ==== Sys2Proof/Config.lean ====
section
/-! DEFINITION. What elaboration fixes (00_scope.md R5, R6), and the free values: the pins the environment drives. -/

namespace Sys2Proof

/-- How `avgReadingPerSegment` is normalised (00_scope.md R5, 42_level_mapping.md R244, 90_conflicts.md C1). -/
inductive AvgNorm where
  /-- the §4.5 text: the mean of the tail, divided by `baseSegment + 1` -/
  | mean
  /-- the reading that reproduces the source's golden figure: the sum of the tail, divided by `baseSegment + 1` -/
  | sum
  deriving DecidableEq, Repr

/-- The elaboration-time parameters (00_scope.md R5). Every function of the block takes the one it depends on as an
argument; `step` and `exec` are the block at `Config.params`. -/
structure Params where
  /-- FRAME_BYTES, 3 .. 16 -/
  frameBytes : Nat
  /-- AVG_NORM -/
  avgNorm    : AvgNorm
  /-- F_CLK, the frequency of `clk` in hertz, at least two cycles per microsecond (92_eei_decisions.md D2,
  93_implementation_defined.md I9) -/
  fClkHz     : Nat
  /-- SELECT_WINDOW_US, how long after its select pulse train the sensor listens, in microseconds: a parameter of the
  environment (92_eei_decisions.md D31, 93_implementation_defined.md I8) -/
  selectWindowUs : Nat
  deriving DecidableEq, Repr

/-- NPULSE = 8 x FRAME_BYTES (00_scope.md R5). -/
def Params.npulse (P : Params) : Nat := 8 * P.frameBytes

/-- N_SEG = FRAME_BYTES - 2 (00_scope.md R5). -/
def Params.nseg (P : Params) : Nat := P.frameBytes - 2

/-- The legal values of FRAME_BYTES (00_scope.md R5; both values of AVG_NORM are legal). -/
abbrev Params.Legal (P : Params) : Prop := 3 ≤ P.frameBytes ∧ P.frameBytes ≤ 16

/-- The clock cycles of a million microseconds, at two a microsecond: the least F_CLK (00_scope.md R5). -/
def Config.minClkHz : Nat := 2000000

/-- The legal values of F_CLK (00_scope.md R5): "any frequency with at least 2 clock cycles per microsecond". -/
abbrev Params.LegalClock (P : Params) : Prop := Config.minClkHz ≤ P.fClkHz

/-- FREE VALUE (DESIGN CHOICE, log 16): how far the platform's F_CLK lies above its least value. -/
opaque Config.fClkAboveMin : Nat

/-- FREE VALUE (DESIGN CHOICE, log 16): the platform's SELECT_WINDOW_US; no value is given (92_eei_decisions.md D31). -/
opaque Config.selectWindowUs : Nat

/-- The default column of 00_scope.md R5, "the value of this hardware": 12 bytes, MEAN.
DESIGN CHOICE (log 6): AVG_NORM is left open (92_eei_decisions.md D16), and the spec's default is taken.
F_CLK and SELECT_WINDOW_US have no default: they are the platform's. -/
def Config.params : Params where
  frameBytes := 12
  avgNorm := .mean
  fClkHz := Config.minClkHz + Config.fClkAboveMin
  selectWindowUs := Config.selectWindowUs

/-- The preamble mask `PRE_MASK` (00_scope.md R6). -/
def Config.preMask : Byte := 0xF0#8

/-- The preamble match `PRE_MATCH` (00_scope.md R6). -/
def Config.preMatch : Byte := 0x90#8

/-- Reset value of `cfg_deadline` (10_state.md R38). -/
def Config.resetDeadline : Ticks := 1000#16

/-- Reset value of `cfg_thresh`: the bit threshold 26 us (00_scope.md R6, 10_state.md R40). -/
def Config.resetThresh : Ticks := 26#16

/-- FREE VALUE (log 2): the level of `resp` in the cycle with this number, where no input is scheduled. "any value of the
`resp` stream" (93_implementation_defined.md I8). -/
opaque Config.freeResp : Nat → Bool

/-- FREE VALUE (log 2): the strobe `us_tick` in the cycle with this number, where no input is scheduled
(92_eei_decisions.md D2: every tick pattern is admitted). -/
opaque Config.freeUsTick : Nat → Bool

end Sys2Proof
end

