-- ==== Sys2Proof/Machine/State.lean ====
section
/-! DEFINITION. The state of the block (10_state.md R30 to R43), its ports as plain data (R53), reset (R55), and the
reasons a step could stop. -/

namespace Sys2Proof.Machine

/-- The capture state `st` (10_state.md R31). -/
inductive CapState where
  | idle
  | waitHigh
  | measureLow
  | eval
  deriving DecidableEq, Repr

/-- The outcomes of a read: RESULT.CODE 0 to 5 (30_encoding.md R104: "A model's outcome type has constructors for codes
0 to 5"). -/
inductive OutcomeCode where
  | none
  | ok
  | noResponse
  | preambleError
  | checksumError
  | calUnsupported
  deriving DecidableEq, Repr

/-- The state vector of 10_state.md R30: one field per element and no other field. -/
structure Block where
  /-- `st` (R31) -/
  st          : CapState
  /-- `p`, the pulse index (R32) -/
  p           : BitVec 8
  /-- `w`, the width counter (R33) -/
  w           : Ticks
  /-- `t`, the wait counter (R34) -/
  t           : Ticks
  /-- `fb[0..FRAME_BYTES-1]`, the frame buffer, byte 0 first (R35) -/
  fb          : List Byte
  /-- `done` (R36) -/
  done        : Bool
  /-- `ign` (R37) -/
  ign         : Bool
  /-- `cfg_deadline` (R38) -/
  cfgDeadline : Ticks
  /-- `cfg_cal` (R39) -/
  cfgCal      : Bool
  /-- `cfg_thresh` (R40) -/
  cfgThresh   : Ticks
  /-- `res_code` (R41) -/
  resCode     : BitVec 3
  /-- `res_lvl` (R41) -/
  resLvl      : BitVec 4
  /-- `res_base` (R41) -/
  resBase     : BitVec 4
  /-- `res_allzero` (R41) -/
  resAllzero  : Bool
  /-- `res_guard` (R41) -/
  resGuard    : Bool
  /-- `level_q` (R42) -/
  levelQ      : BitVec 15
  /-- `nr_cnt` (R43) -/
  nrCnt       : BitVec 32
  /-- `pre_cnt` (R43) -/
  preCnt      : BitVec 32
  /-- `ck_cnt` (R43) -/
  ckCnt       : BitVec 32
  deriving DecidableEq, Repr

/-- The reset values of 10_state.md R55, for a block of FRAME_BYTES bytes. -/
def Block.reset (P : Params) : Block where
  st := .idle
  p := 0#8
  w := 0#16
  t := 0#16
  fb := List.replicate P.frameBytes 0#8
  done := false
  ign := false
  cfgDeadline := Config.resetDeadline
  cfgCal := false
  cfgThresh := Config.resetThresh
  resCode := 0#3
  resLvl := 0#4
  resBase := 0#4
  resAllzero := false
  resGuard := false
  levelQ := 0#15
  nrCnt := 0#32
  preCnt := 0#32
  ckCnt := 0#32

/-- The pins the host drives in one cycle (10_state.md R53): `rst`, and the transaction when `bus_en = 1`. -/
structure HostPins where
  rst    : Bool
  access : Option TransWord
  deriving DecidableEq, Repr

/-- The pins the environment drives in one cycle (10_state.md R53). DEDUCED (log 18): clean samples, any stream of
them. -/
structure EnvPins where
  resp   : Bool
  usTick : Bool
  deriving DecidableEq, Repr

/-- The inputs of one cycle, port by port (10_state.md R53). -/
structure Inputs where
  rst      : Bool
  resp     : Bool
  usTick   : Bool
  busEn    : Bool
  busWe    : Bool
  busAddr  : BitVec 6
  busWdata : Word
  deriving DecidableEq, Repr

/-- The machine: the block, and its ports. The four fields beside `block` are the MODEL's own (log 1): what the outside
world presents in the coming cycles, one entry per cycle, and what the block put on `bus_rdata` in the last one. -/
structure State where
  /-- the block's whole state (R30) -/
  block    : Block
  /-- the host's pins in the coming cycles, the next cycle first; past its end the host does nothing (log 3) -/
  hostPort : List HostPins
  /-- the environment's pins in the coming cycles; past its end they are free values (log 2) -/
  envPort  : List EnvPins
  /-- the number of cycles made, which names the free values of a cycle (log 2) -/
  cycleNo  : Nat
  /-- `bus_rdata` of the last cycle, when that cycle was a read (R53: "valid in the cycle of a read"; log 10) -/
  busRdata : Option Word
  deriving DecidableEq, Repr

/-- The machine right after reset (10_state.md R55, 70_reset_and_hazards.md R360): the block's reset values, and nothing
scheduled on its ports (DESIGN CHOICE, log 1 to log 4). The state before it is not modelled (DEDUCED, log 11). -/
def State.reset : State where
  block := Block.reset Config.params
  hostPort := []
  envPort := []
  cycleNo := 0
  busRdata := none

/-- The block has no fault (30_encoding.md R112: "nothing traps"; 60_exceptions.md R332). -/
inductive Fault where
  /-- RESULT.CODE holds 6 or 7. Raised by `Safety.consistencyCheck` alone, as 93_implementation_defined.md I14 asks
  ("`fault` in a consistency check"); no step of the machine raises it. Safe -/
  | reservedResultCode (code : BitVec 3)
  deriving DecidableEq, Repr

/-- Why a step has no meaning. -/
inductive Refusal where
  /-- an instruction without a meaning yet, by its mnemonic. Raised by no arm of `exec`: every row has its meaning. Safe -/
  | notModelled (mnemonic : String)
  deriving DecidableEq, Repr

/-- What a cycle of the machine answers. -/
abbrev Result := Host.Outcome State Fault Refusal

end Sys2Proof.Machine
end

