-- ==== Sys2Proof/Machine/Flags.lean ====
section
/-! DEFINITION. Flags (10_state.md R56), the codes of the state and outcome fields, and the saturating counters. -/

namespace Sys2Proof.Machine

/-- STATUS.STATE (30_encoding.md R105). -/
def CapState.code : CapState → BitVec 2
  | .idle => 0#2
  | .waitHigh => 1#2
  | .measureLow => 2#2
  | .eval => 3#2

/-- RESULT.CODE (30_encoding.md R104). -/
def OutcomeCode.code : OutcomeCode → BitVec 3
  | .none => 0#3
  | .ok => 1#3
  | .noResponse => 2#3
  | .preambleError => 3#3
  | .checksumError => 4#3
  | .calUnsupported => 5#3

/-- STATUS.BUSY: 1 iff `st != IDLE` (10_state.md R44). -/
def Block.busy (b : Block) : Bool := b.st != .idle

/-- IGN <- 1: the sticky flag of a dropped write or a reserved command (10_state.md R37). -/
def setIgn (n : Block) : Block := { n with ign := true }

/-- IGN <- 0 when 1 is written to STATUS bit 2 (43_host_commands.md R288). -/
def clearIgnIf (bit : Bool) (n : Block) : Block := { n with ign := if bit then false else n.ign }

/-- `sat32(x) = min(x, 2^32 - 1)` (00_scope.md R9). -/
def sat32 (x : Nat) : BitVec 32 := BitVec.ofNat 32 (min x (2 ^ 32 - 1))

/-- `sat32((clr ? 0 : c) + inc)`: a counter at the end of a cycle (40_pulse_capture.md R150). -/
def counterNext (clr : Bool) (c : BitVec 32) (inc : Bool) : BitVec 32 :=
  sat32 ((if clr then 0 else c.toNat) + inc.toNat)

/-- `inc_nr`, `inc_pre`, `inc_ck` of one cycle (40_pulse_capture.md R150). -/
structure Incs where
  nr  : Bool
  pre : Bool
  ck  : Bool
  deriving DecidableEq, Repr

/-- No counter is incremented. -/
def Incs.zero : Incs := { nr := false, pre := false, ck := false }

/-- The counter that an outcome increments (41_frame_validation.md R205, the last case of `Finish`). -/
def OutcomeCode.incs : OutcomeCode → Incs
  | .noResponse => { nr := true, pre := false, ck := false }
  | .preambleError => { nr := false, pre := true, ck := false }
  | .checksumError => { nr := false, pre := false, ck := true }
  | .none | .ok | .calUnsupported => Incs.zero

end Sys2Proof.Machine
end

