-- ==== Sys2Proof/Machine/Operands.lean ====
section
/-! DEFINITION. The register window (20_memory.md R80 to R85): its words, their read values, and the read of any byte
address. A write's operand fields are taken by the decoder (30_encoding.md R101). -/

namespace Sys2Proof.Machine

/-- STATUS (10_state.md R44). -/
def statusWord (b : Block) : Word :=
  (0#16 ++ b.p ++ 0#2 ++ b.st.code ++ 0#1 ++ BitVec.ofBool b.ign ++ BitVec.ofBool b.done ++ BitVec.ofBool b.busy).cast
    (rfl : 16 + 8 + 2 + 2 + 1 + 1 + 1 + 1 = 32)

/-- CONFIG (10_state.md R45). -/
def configWord (b : Block) : Word :=
  (0#15 ++ BitVec.ofBool b.cfgCal ++ b.cfgDeadline).cast (rfl : 15 + 1 + 16 = 32)

/-- THRESH (10_state.md R46). -/
def threshWord (b : Block) : Word := (0#16 ++ b.cfgThresh).cast (rfl : 16 + 16 = 32)

/-- RESULT (10_state.md R47). -/
def resultWord (b : Block) : Word :=
  (0#18 ++ BitVec.ofBool b.resGuard ++ BitVec.ofBool b.resAllzero ++ b.resBase ++ b.resLvl ++ 0#1 ++ b.resCode).cast
    (rfl : 18 + 1 + 1 + 4 + 4 + 1 + 3 = 32)

/-- LEVEL (10_state.md R48). -/
def levelWord (b : Block) : Word := (0#17 ++ b.levelQ).cast (rfl : 17 + 15 = 32)

/-- PARAM, fixed at elaboration (10_state.md R50). -/
def paramWord (P : Params) : Word :=
  (0#15 ++ BitVec.ofBool (P.avgNorm == .sum) ++ BitVec.ofNat 8 P.npulse ++ BitVec.ofNat 8 P.frameBytes).cast
    (rfl : 15 + 1 + 8 + 8 = 32)

/-- Frame byte `i`, 0 from FRAME_BYTES on (10_state.md R51). -/
def frameByte (b : Block) (i : Nat) : Byte := b.fb.getD i 0#8

/-- FRAMEk, little-endian (10_state.md R51, 30_encoding.md R109). -/
def frameWord (b : Block) (k : Nat) : Word :=
  (frameByte b (4 * k + 3) ++ frameByte b (4 * k + 2) ++ frameByte b (4 * k + 1) ++ frameByte b (4 * k)).cast
    (rfl : 8 + 8 + 8 + 8 = 32)

/-- The words of the window, by name (20_memory.md R81). -/
inductive Reg where
  | ctrl | status | config | thresh | result | level | nrCnt | preCnt | ckCnt | param | rsvd28 | rsvd2C
  | frame0 | frame1 | frame2 | frame3
  deriving DecidableEq, Repr

/-- The word number `addr[5:2]` of a register (20_memory.md R81, offset / 4). -/
def Reg.word : Reg → BitVec 4
  | .ctrl => 0x0#4
  | .status => 0x1#4
  | .config => 0x2#4
  | .thresh => 0x3#4
  | .result => 0x4#4
  | .level => 0x5#4
  | .nrCnt => 0x6#4
  | .preCnt => 0x7#4
  | .ckCnt => 0x8#4
  | .param => 0x9#4
  | .rsvd28 => 0xA#4
  | .rsvd2C => 0xB#4
  | .frame0 => 0xC#4
  | .frame1 => 0xD#4
  | .frame2 => 0xE#4
  | .frame3 => 0xF#4

/-- The byte offset of a register (20_memory.md R81). -/
def Reg.offset (r : Reg) : BitVec 6 := (r.word ++ 0#2).cast (rfl : 4 + 2 = 6)

/-- `ReadReg(s, addr)` (43_host_commands.md R281): the read value at any byte address, `addr[1:0]` ignored. -/
def readReg (P : Params) (b : Block) (addr : BitVec 6) : Word :=
  match addrWord addr with
  | 0x0#4 => 0#32
  | 0x1#4 => statusWord b
  | 0x2#4 => configWord b
  | 0x3#4 => threshWord b
  | 0x4#4 => resultWord b
  | 0x5#4 => levelWord b
  | 0x6#4 => b.nrCnt
  | 0x7#4 => b.preCnt
  | 0x8#4 => b.ckCnt
  | 0x9#4 => paramWord P
  | 0xA#4 => 0#32
  | 0xB#4 => 0#32
  | 0xC#4 => frameWord b 0
  | 0xD#4 => frameWord b 1
  | 0xE#4 => frameWord b 2
  | _ => frameWord b 3           -- 0xF

end Sys2Proof.Machine
end

