-- ==== Sys2Proof/Machine/Ops.lean ====
section
/-! DEFINITION. The shared operations: the pins of the current cycle, writing a frame bit, ending a read with an outcome
(`Finish`, the counterpart of taking an exception) and beginning the next one (the counterpart of returning). -/

namespace Sys2Proof.Machine

/-- The host's pins in the current cycle: nothing when nothing is scheduled (log 3). -/
def State.hostNow (s : State) : HostPins := s.hostPort.headD { rst := false, access := none }

/-- The environment's pins in the current cycle: free values when nothing is scheduled (log 2). -/
def State.envNow (s : State) : EnvPins :=
  s.envPort.headD { resp := Config.freeResp s.cycleNo, usTick := Config.freeUsTick s.cycleNo }

/-- The machine after a cycle that left the block at `b` and put `rdata` on `bus_rdata`: the cycle's pins are used up. -/
def State.nextCycle (s : State) (b : Block) (rdata : Option Word) : State where
  block := b
  hostPort := s.hostPort.tail
  envPort := s.envPort.tail
  cycleNo := s.cycleNo + 1
  busRdata := rdata

/-- The bit of the frame buffer that pulse `q` is written to: bit `7 - (q mod 8)` of byte `q div 8`
(30_encoding.md R107, 40_pulse_capture.md R157). -/
def frameBit (fb : List Byte) (q : Nat) : Bool := (fb.getD (q / 8) 0#8).getLsbD (7 - q % 8)

/-- The byte `v` with bit `k` replaced by `bit`. -/
def replaceBit (v : Byte) (k : Nat) (bit : Bool) : Byte :=
  if bit then v ||| (1#8 <<< k) else v &&& ~~~(1#8 <<< k)

/-- `PlaceBit(p, bit)` (40_pulse_capture.md R157). -/
def placeBit (fb : List Byte) (p : Nat) (bit : Bool) : List Byte :=
  fb.modify (p / 8) (fun v => replaceBit v (7 - p % 8) bit)

/-- `floor(L * 256)` in 15 bits (30_encoding.md R110). -/
def levelBits (L : Rat) : BitVec 15 := BitVec.ofNat 15 (L * 256).floor.toNat

/-- `Finish(code, L, lvl, base, az, g)` (41_frame_validation.md R205): the read ends, with its outcome recorded. The
increments are `code.incs`. `p` and `fb` keep their values. -/
def finish (code : OutcomeCode) (L : Rat) (lvl base : Nat) (az g : Bool) (n : Block) : Block :=
  { n with
    st := .idle
    done := true
    resCode := code.code
    levelQ := if code = .ok then levelBits L else 0#15
    resLvl := if code = .ok then BitVec.ofNat 4 lvl else 0#4
    resBase := if code = .ok then BitVec.ofNat 4 base else 0#4
    resAllzero := if code = .ok then az else false
    resGuard := if code = .ok then g else false }

/-- `Finish(code)` of a failure: the defaults of 41_frame_validation.md R205. -/
def finishFailed (code : OutcomeCode) (n : Block) : Block := finish code 0 0 0 false false n

/-- The accepted branch of `Start` (43_host_commands.md R283): the next read begins, the last one's result is cleared.
DEDUCED (log 20): START writes `w <- 0`, as R283's pseudocode does and against 10_state.md R33 ("Written by the capture step
only"). -/
def beginRead (n : Block) : Block :=
  { n with
    st := .waitHigh
    p := 0#8
    w := 0#16
    t := 0#16
    fb := n.fb.map (fun _ => 0#8)
    done := false
    resCode := 0#3
    resLvl := 0#4
    resBase := 0#4
    resAllzero := false
    resGuard := false
    levelQ := 0#15 }

end Sys2Proof.Machine
end

