-- ==== Sys2Proof/Machine/Level.lean ====
section
/-! DEFINITION. segment_level_mapper: the level estimate on exact rationals (42_level_mapping.md R240 to R247), and the
integer datapath that computes the same LEVEL_Q (R248). -/

namespace Sys2Proof.Machine

/-- What `estimate` answers (42_level_mapping.md R240): `Level(L, lvl, base, az, g)` or `Unsupported`. -/
inductive Estimate where
  | level (L : Rat) (lvl base : Nat) (allzero guard : Bool)
  | unsupported
  deriving DecidableEq, Repr

/-- A segment reading is zero: "segment not covered/not available" (00_scope.md R12). -/
def segmentNonzero (v : Byte) : Bool := v != 0#8

/-- The reading of segment `i` as a number. -/
def reading (payload : List Byte) (i : Nat) : Nat := (payload.getD i 0#8).toNat

/-- `levelSegment` (R242): "lowest index with a nonzero value, scanning from the first index forward". -/
def levelSegment (payload : List Byte) : Nat := payload.findIdx segmentNonzero

/-- `baseSegment` (R241): "highest index with a nonzero value, scanning from the last index backward". -/
def baseSegment (payload : List Byte) : Nat := payload.length - 1 - payload.reverse.findIdx segmentNonzero

/-- The tail `payload[Lv+1 .. N_SEG-1]` (R244). -/
def tail (payload : List Byte) (lv : Nat) : List Byte := payload.drop (lv + 1)

/-- `n_t`, the number of elements of the tail (R244). DEDUCED (log 15): N_SEG is the payload's length. -/
def tailCount (payload : List Byte) (lv : Nat) : Nat := payload.length - 1 - lv

/-- `S_t`, the sum of the tail (R244). -/
def tailSum (payload : List Byte) (lv : Nat) : Nat := ((tail payload lv).map BitVec.toNat).sum

/-- `avgContributionPerSegment` (R243), an exact rational. -/
def contribution (base : Nat) : Rat := 100 / ((base : Rat) + 1)

/-- `avgReadingPerSegment` (R244) of a tail that is neither empty nor all zero. -/
def avgReading (norm : AvgNorm) (payload : List Byte) (base lv : Nat) : Rat :=
  match norm with
  | .mean => ((tailSum payload lv : Rat) / (tailCount payload lv : Rat)) / ((base : Rat) + 1)
  | .sum => (tailSum payload lv : Rat) / ((base : Rat) + 1)

/-- The guard of R245: the tail is empty or sums to zero. -/
def tailGuard (payload : List Byte) (lv : Nat) : Bool := tailCount payload lv == 0 || tailSum payload lv == 0

/-- `levelRatio` (R244), with the division guard of R245. -/
def levelRatio (norm : AvgNorm) (payload : List Byte) (base lv : Nat) : Rat × Bool :=
  if tailGuard payload lv then (1, true)
  else ((reading payload lv : Rat) / avgReading norm payload base lv, false)

/-- `rawLevel` (R246). -/
def rawLevel (ratio : Rat) (base lv : Nat) : Rat := (ratio + ((base : Rat) - (lv : Rat))) * contribution base

/-- The clamp to [0, 100] (R247). -/
def clampLevel (raw : Rat) : Rat := min (max raw 0) 100

/-- `estimate(payload, cal)` (R240). The all-zero test comes before the calibration test (90_conflicts.md C2).
DESIGN CHOICE (log 14): total on payloads of every length. -/
def estimate (norm : AvgNorm) (payload : List Byte) (cal : Bool) : Estimate :=
  if payload.all (fun v => v == 0#8) then .level 0 0 0 true false
  else if cal then .unsupported
  else
    let base := baseSegment payload
    let lv := levelSegment payload
    let (ratio, g) := levelRatio norm payload base lv
    .level (clampLevel (rawLevel ratio base lv)) lv base false g

/-- `k` of R248: the tail count for MEAN, 1 for SUM. -/
def normFactor (norm : AvgNorm) (payload : List Byte) (lv : Nat) : Nat :=
  match norm with
  | .mean => tailCount payload lv
  | .sum => 1

/-- `num` of R248. -/
def levelNum (norm : AvgNorm) (payload : List Byte) (base lv : Nat) : Nat :=
  25600 * (reading payload lv * normFactor norm payload lv * (base + 1) + (base - lv) * tailSum payload lv)

/-- `den` of R248. -/
def levelDen (payload : List Byte) (base lv : Nat) : Nat := tailSum payload lv * (base + 1)

/-- `levelQ(payload, B, Lv)`, the integer datapath (R248). The machine records `floor(L * 256)` of the exact level
(`levelBits`); that the two agree is a statement about this function. -/
def levelQ (norm : AvgNorm) (payload : List Byte) (base lv : Nat) : Nat :=
  if tailGuard payload lv then 25600 / (base + 1)
  else min (levelNum norm payload base lv / levelDen payload base lv) 25600

end Sys2Proof.Machine
end

