-- ==== Sys2Proof/Machine/Validation.lean ====
section
/-! DEFINITION. preamble_validator and checksum_validator, and the EVAL step (41_frame_validation.md R200 to R208). -/

namespace Sys2Proof.Machine

/-- What `validate` answers (41_frame_validation.md R200). -/
inductive Verdict where
  | ok (payload : List Byte)
  | noResponse
  | preambleError
  | checksumError
  deriving DecidableEq, Repr

/-- `PreambleOk(b0)`: the high nibble is 1001 (R201). -/
def preambleOk (b0 : Byte) : Bool := b0 &&& Config.preMask == Config.preMatch

/-- The payload `frame[2 .. FRAME_BYTES-1]` (R203). -/
def payloadOf (P : Params) (frame : List Byte) : List Byte := (frame.take P.frameBytes).drop 2

/-- The 8-bit accumulator over the payload (R202). -/
def checksumSum (payload : List Byte) : Byte := payload.foldl (fun s v => s + v) 0#8

/-- `ChecksumOk(frame)` (R202): `(s - (2 + header)) mod 256 = 0`, in 8-bit arithmetic. -/
def checksumOk (P : Params) (frame : List Byte) : Bool :=
  checksumSum (payloadOf P frame) - (2#8 + frame.getD 1 0#8) == 0#8

/-- `validate(frame)` (R200): the length first, so that a short frame is never indexed (R208). DEDUCED
(log 12): of a longer list, the first FRAME_BYTES bytes. -/
def validate (P : Params) (frame : List Byte) : Verdict :=
  if frame.length < P.frameBytes then .noResponse
  else if !preambleOk (frame.getD 0 0#8) then .preambleError
  else if !checksumOk P frame then .checksumError
  else .ok (payloadOf P frame)

/-- `EvalStep(s)` (R204): the block after it, and the counter increments. `validate` answers `noResponse` in no state
whose `fb` has FRAME_BYTES bytes (R208); for the others the read ends as the functional form says, NO_RESPONSE (log 9). -/
def evalStep (P : Params) (s : Block) : Block × Incs :=
  match validate P s.fb with
  | .noResponse => (finishFailed .noResponse s, OutcomeCode.noResponse.incs)
  | .preambleError => (finishFailed .preambleError s, OutcomeCode.preambleError.incs)
  | .checksumError => (finishFailed .checksumError s, OutcomeCode.checksumError.incs)
  | .ok payload =>
    match estimate P.avgNorm payload s.cfgCal with
    | .unsupported => (finishFailed .calUnsupported s, OutcomeCode.calUnsupported.incs)
    | .level L lvl base az g => (finish .ok L lvl base az g s, OutcomeCode.ok.incs)

end Sys2Proof.Machine
end

