-- ==== Sys2Proof/Machine/Capture.lean ====
section
/-! DEFINITION. pulse_width_decoder and frame_capture_and_align: the two waits, the classification of a width, the frame
(40_pulse_capture.md R151 to R159). -/

namespace Sys2Proof.Machine

/-- `Classify(w, thr)` (R156): a width below the threshold is bit 1. -/
def classify (w thr : Ticks) : Bool := decide (w < thr)

/-- The tick that would make the count of a wait reach the deadline (R153). DEDUCED (log 8): `count + 1` is an exact sum,
so it does not wrap at 16 bits. -/
def deadlineReached (count deadline : Ticks) : Bool := decide (deadline.toNat ≤ count.toNat + 1)

/-- `WaitHighStep(s, in)` (R151). -/
def waitHighStep (s : Block) (e : EnvPins) : Block × Incs :=
  if e.resp = false then ({ s with st := .measureLow, w := 0#16 }, Incs.zero)
  else if e.usTick then
    if deadlineReached s.t s.cfgDeadline then (finishFailed .noResponse s, OutcomeCode.noResponse.incs)
    else ({ s with t := s.t + 1#16 }, Incs.zero)
  else (s, Incs.zero)

/-- The edge that ends a low period: its width is classified and its bit placed (R152, R156, R157, R159). -/
def endPulse (P : Params) (s : Block) : Block :=
  { s with
    fb := placeBit s.fb s.p.toNat (classify s.w s.cfgThresh)
    p := s.p + 1#8
    t := 0#16
    st := if s.p.toNat + 1 = P.npulse then .eval else .waitHigh }

/-- `MeasureLowStep(s, in)` (R152). -/
def measureLowStep (P : Params) (s : Block) (e : EnvPins) : Block × Incs :=
  if e.resp then (endPulse P s, Incs.zero)
  else if e.usTick then
    if deadlineReached s.w s.cfgDeadline then (finishFailed .noResponse s, OutcomeCode.noResponse.incs)
    else ({ s with w := s.w + 1#16 }, Incs.zero)
  else (s, Incs.zero)

/-- The capture part of `Cycle` (R150): the step that `st` selects. -/
def capture (P : Params) (s : Block) (e : EnvPins) : Block × Incs :=
  match s.st with
  | .idle => (s, Incs.zero)
  | .waitHigh => waitHighStep s e
  | .measureLow => measureLowStep P s e
  | .eval => evalStep P s

/-! ## The functional form -/

/-- `byte_b` of R158: the chunk reversed, so that `rev[i]` is bit `i`, and accumulated. -/
def decodeByte (chunk : List Ticks) (thr : Ticks) : Byte :=
  BitVec.ofNat 8 (chunk.reverse.foldr (fun w acc => (classify w thr).toNat + 2 * acc) 0)

/-- `decodeFrame(ws, thr)` (R158), applied to exactly NPULSE widths. -/
def decodeFrame (P : Params) (ws : List Ticks) (thr : Ticks) : Option (List Byte) :=
  if ws.length = P.npulse then
    some ((List.range P.frameBytes).map (fun b => decodeByte ((ws.drop (8 * b)).take 8) thr))
  else none

/-- The verdict on a capture: a list of any other length is NO_RESPONSE (R158, 41_frame_validation.md R208). -/
def captureVerdict (P : Params) (ws : List Ticks) (thr : Ticks) : Verdict :=
  match decodeFrame P ws thr with
  | none => .noResponse
  | some frame => validate P frame

end Sys2Proof.Machine
end

