-- ==== Sys2Proof/Machine/Cycle.lean ====
section
/-! DEFINITION. One clock cycle (40_pulse_capture.md R150): with a host effect for the meanings of the host operations,
and in the rules' own form over the raw ports (`cyclePorts`, 43_host_commands.md R290). -/

namespace Sys2Proof.Machine

/-- `Start(s)` (43_host_commands.md R283): looks at the start-of-cycle state `s`, writes into the next state `n`. -/
def hostStart (s n : Block) : Block := if s.st = .idle then beginRead n else setIgn n

/-- `WriteConfig(s, wdata)` (43_host_commands.md R286). -/
def hostConfig (deadline : Ticks) (cal : Bool) (s n : Block) : Block :=
  if s.st = .idle then { n with cfgDeadline := deadline, cfgCal := cal } else setIgn n

/-- `WriteThresh(s, wdata)` (43_host_commands.md R287). -/
def hostThresh (thresh : Ticks) (s n : Block) : Block :=
  if s.st = .idle then { n with cfgThresh := thresh } else setIgn n

/-- A host operation that writes nothing. -/
def hostSkip (_ n : Block) : Block := n

/-- The last three lines of `Cycle` (R150): the counters. -/
def commitCounters (clr : Bool) (s n : Block) (inc : Incs) : Block :=
  { n with
    nrCnt := counterNext clr s.nrCnt inc.nr
    preCnt := counterNext clr s.preCnt inc.pre
    ckCnt := counterNext clr s.ckCnt inc.ck }

/-- A cycle without reset: the capture part, the host's write `host`, the counters (R150). -/
def Block.cycle (P : Params) (host : Block → Block → Block) (clr : Bool) (s : Block) (e : EnvPins) : Block :=
  let (n, inc) := capture P s e
  commitCounters clr s (host s n) inc

/-- The machine's cycle with a host operation on the bus: `rst` overrides it (70_reset_and_hazards.md R360); a read puts
`rdata`, computed from the start-of-cycle state, on `bus_rdata` in either case. -/
def busCycle (host : Block → Block → Block) (clr : Bool) (rdata : Option Word) (s : State) : Result :=
  .next (s.nextCycle
    (if s.hostNow.rst then Block.reset Config.params else s.block.cycle Config.params host clr s.envNow) rdata)

/-- A cycle with a write. -/
def writeCycle (host : Block → Block → Block) (s : State) : Result := busCycle host false none s

/-- A cycle with a read of the value `value` (43_host_commands.md R281). -/
def readCycle (value : Word) (s : State) : Result := busCycle hostSkip false (some value) s

/-- A cycle with `bus_en = 0`: no transaction (30_encoding.md R100). -/
def quietCycle (s : State) : Result := busCycle hostSkip false none s

/-! ## The rules' own form -/

/-- `HostWrite(s, addr, wdata)` (43_host_commands.md R290): the next state, and `clr`. -/
def hostWrite (s n : Block) (addr : BitVec 6) (wdata : Word) : Block × Bool :=
  match addrWord addr with
  | 0x0#4 =>
    let cmd := wdata.extractLsb' 0 8
    if cmd = 0x00#8 then (n, false)
    else if cmd = 0x01#8 then (hostStart s n, false)
    else if cmd = 0x02#8 then (n, true)
    else (setIgn n, false)
  | 0x1#4 => (clearIgnIf (wdata.getLsbD 2) n, false)
  | 0x2#4 => (hostConfig (wdata.extractLsb' 0 16) (wdata.getLsbD 16) s n, false)
  | 0x3#4 => (hostThresh (wdata.extractLsb' 0 16) s n, false)
  | _ => (n, false)

/-- `Cycle(s, in)` (40_pulse_capture.md R150), a total function of the block and its ports. -/
def cyclePorts (P : Params) (s : Block) (inp : Inputs) : Block :=
  if inp.rst then Block.reset P
  else
    let (n, inc) := capture P s { resp := inp.resp, usTick := inp.usTick }
    let (n', clr) := if inp.busEn && inp.busWe then hostWrite s n inp.busAddr inp.busWdata else (n, false)
    commitCounters clr s n' inc

/-- `bus_rdata` of a cycle, when it makes a read (10_state.md R53, 43_host_commands.md R281). -/
def rdataPorts (P : Params) (s : Block) (inp : Inputs) : Option Word :=
  if inp.busEn && !inp.busWe then some (readReg P s inp.busAddr) else none

/-- The current cycle's ports (10_state.md R53). With `bus_en = 0` the other bus inputs carry no meaning; they are 0 here. -/
def State.inputsNow (s : State) : Inputs where
  rst := s.hostNow.rst
  resp := s.envNow.resp
  usTick := s.envNow.usTick
  busEn := s.hostNow.access.isSome
  busWe := (s.hostNow.access.map twWe).getD false
  busAddr := (s.hostNow.access.map twAddr).getD 0#6
  busWdata := (s.hostNow.access.map twWdata).getD 0#32

end Sys2Proof.Machine
end

