-- ==== Sys2Proof/Machine/Commands.lean ====
section
/-! DEFINITION. The commands: writes to CTRL (43_host_commands.md R282 to R285). -/

namespace Sys2Proof.Machine

/-- NOP (R282): `skip`. -/
def execNop (s : State) : Result := writeCycle hostSkip s

/-- START (R283): begin a read, or be dropped with IGN. -/
def execStart (s : State) : Result := writeCycle hostStart s

/-- CLEAR_STATS (R284): `clr <- 1`. -/
def execClearStats (s : State) : Result := busCycle hostSkip true none s

/-- A reserved command (R285): `ign <- 1`, whatever its code. -/
def reservedCommand (s : State) : Result := writeCycle (fun _ n => setIgn n) s

/-- CMD_RESERVED_03 (R285). -/
def execCmdReserved03 (s : State) : Result := reservedCommand s

/-- CMD_RESERVED_04_07 (R285). -/
def execCmdReserved04to07 (_cmd : BitVec 8) (s : State) : Result := reservedCommand s

/-- CMD_RESERVED_08_0F (R285). -/
def execCmdReserved08to0F (_cmd : BitVec 8) (s : State) : Result := reservedCommand s

/-- CMD_RESERVED_10_1F (R285). -/
def execCmdReserved10to1F (_cmd : BitVec 8) (s : State) : Result := reservedCommand s

/-- CMD_RESERVED_20_3F (R285). -/
def execCmdReserved20to3F (_cmd : BitVec 8) (s : State) : Result := reservedCommand s

/-- CMD_RESERVED_40_7F (R285). -/
def execCmdReserved40to7F (_cmd : BitVec 8) (s : State) : Result := reservedCommand s

/-- CMD_RESERVED_80_FF (R285). -/
def execCmdReserved80toFF (_cmd : BitVec 8) (s : State) : Result := reservedCommand s

end Sys2Proof.Machine
end

