-- ==== Sys2Proof/Machine/RegisterReads.lean ====
section
/-! DEFINITION. Reads of the words of the window (43_host_commands.md R281): the start-of-cycle value on `bus_rdata`, and
no change of state beyond the cycle's own. -/

namespace Sys2Proof.Machine

/-- RD_CTRL: CTRL is write-only and reads 0 (10_state.md R52). -/
def execRdCtrl (s : State) : Result := readCycle 0#32 s

/-- RD_STATUS: 10_state.md R44. -/
def execRdStatus (s : State) : Result := readCycle (statusWord s.block) s

/-- RD_CONFIG: R45. -/
def execRdConfig (s : State) : Result := readCycle (configWord s.block) s

/-- RD_THRESH: R46. -/
def execRdThresh (s : State) : Result := readCycle (threshWord s.block) s

/-- RD_RESULT: R47. -/
def execRdResult (s : State) : Result := readCycle (resultWord s.block) s

/-- RD_LEVEL: R48. -/
def execRdLevel (s : State) : Result := readCycle (levelWord s.block) s

/-- RD_NR_CNT: R49. -/
def execRdNrCnt (s : State) : Result := readCycle s.block.nrCnt s

/-- RD_PRE_CNT: R49. -/
def execRdPreCnt (s : State) : Result := readCycle s.block.preCnt s

/-- RD_CK_CNT: R49. -/
def execRdCkCnt (s : State) : Result := readCycle s.block.ckCnt s

/-- RD_PARAM: R50. -/
def execRdParam (s : State) : Result := readCycle (paramWord Config.params) s

/-- RD_RSVD_28: a reserved word reads 0 (20_memory.md R82). -/
def execRdRsvd28 (s : State) : Result := readCycle 0#32 s

/-- RD_RSVD_2C: a reserved word reads 0 (20_memory.md R82). -/
def execRdRsvd2C (s : State) : Result := readCycle 0#32 s

/-- RD_FRAME0: 10_state.md R51. -/
def execRdFrame0 (s : State) : Result := readCycle (frameWord s.block 0) s

/-- RD_FRAME1: 10_state.md R51. -/
def execRdFrame1 (s : State) : Result := readCycle (frameWord s.block 1) s

/-- RD_FRAME2: 10_state.md R51. -/
def execRdFrame2 (s : State) : Result := readCycle (frameWord s.block 2) s

/-- RD_FRAME3: 10_state.md R51. -/
def execRdFrame3 (s : State) : Result := readCycle (frameWord s.block 3) s

end Sys2Proof.Machine
end

