-- ==== Sys2Proof/Machine/RegisterWrites.lean ====
section
/-! DEFINITION. Writes to the other words of the window (43_host_commands.md R286 to R289). -/

namespace Sys2Proof.Machine

/-- WR_STATUS (R288): `if wdata[2] = 1: ign <- 0`. -/
def execWrStatus (clearIgn : Bool) (s : State) : Result := writeCycle (fun _ n => clearIgnIf clearIgn n) s

/-- WR_CONFIG (R286). -/
def execWrConfig (deadline : Ticks) (calPresent : Bool) (s : State) : Result :=
  writeCycle (hostConfig deadline calPresent) s

/-- WR_THRESH (R287). -/
def execWrThresh (thresh : Ticks) (s : State) : Result := writeCycle (hostThresh thresh) s

/-- WR_RO_10_1C (R289): `skip`. -/
def execWrRo10to1C (_word : BitVec 4) (s : State) : Result := writeCycle hostSkip s

/-- WR_RO_20_3C (R289): `skip`. -/
def execWrRo20to3C (_word : BitVec 4) (s : State) : Result := writeCycle hostSkip s

end Sys2Proof.Machine
end

