-- ==== Sys2Proof/Machine/Dispatch.lean ====
section
/-! DEFINITION. The meaning of every host operation: one arm per row of spec/opcode_table.json. -/

namespace Sys2Proof.Machine

/-- One cycle with the transaction `i` on the bus. -/
def exec (i : Instr) (s : State) : Host.Outcome State Fault Refusal :=
  match i with
  | .nop => Sys2Proof.Machine.execNop s
  | .start => Sys2Proof.Machine.execStart s
  | .clearStats => Sys2Proof.Machine.execClearStats s
  | .cmdReserved03 => Sys2Proof.Machine.execCmdReserved03 s
  | .cmdReserved04to07 cmd => Sys2Proof.Machine.execCmdReserved04to07 cmd s
  | .cmdReserved08to0F cmd => Sys2Proof.Machine.execCmdReserved08to0F cmd s
  | .cmdReserved10to1F cmd => Sys2Proof.Machine.execCmdReserved10to1F cmd s
  | .cmdReserved20to3F cmd => Sys2Proof.Machine.execCmdReserved20to3F cmd s
  | .cmdReserved40to7F cmd => Sys2Proof.Machine.execCmdReserved40to7F cmd s
  | .cmdReserved80toFF cmd => Sys2Proof.Machine.execCmdReserved80toFF cmd s
  | .wrStatus clearIgn => Sys2Proof.Machine.execWrStatus clearIgn s
  | .wrConfig deadline calPresent => Sys2Proof.Machine.execWrConfig deadline calPresent s
  | .wrThresh thresh => Sys2Proof.Machine.execWrThresh thresh s
  | .wrRo10to1C word => Sys2Proof.Machine.execWrRo10to1C word s
  | .wrRo20to3C word => Sys2Proof.Machine.execWrRo20to3C word s
  | .rdCtrl => Sys2Proof.Machine.execRdCtrl s
  | .rdStatus => Sys2Proof.Machine.execRdStatus s
  | .rdConfig => Sys2Proof.Machine.execRdConfig s
  | .rdThresh => Sys2Proof.Machine.execRdThresh s
  | .rdResult => Sys2Proof.Machine.execRdResult s
  | .rdLevel => Sys2Proof.Machine.execRdLevel s
  | .rdNrCnt => Sys2Proof.Machine.execRdNrCnt s
  | .rdPreCnt => Sys2Proof.Machine.execRdPreCnt s
  | .rdCkCnt => Sys2Proof.Machine.execRdCkCnt s
  | .rdParam => Sys2Proof.Machine.execRdParam s
  | .rdRsvd28 => Sys2Proof.Machine.execRdRsvd28 s
  | .rdRsvd2C => Sys2Proof.Machine.execRdRsvd2C s
  | .rdFrame0 => Sys2Proof.Machine.execRdFrame0 s
  | .rdFrame1 => Sys2Proof.Machine.execRdFrame1 s
  | .rdFrame2 => Sys2Proof.Machine.execRdFrame2 s
  | .rdFrame3 => Sys2Proof.Machine.execRdFrame3 s

end Sys2Proof.Machine
end

