-- ==== Sys2Proof/Machine/Step.lean ====
section
/-! DEFINITION. One step: one cycle of `clk`. The block fetches no instruction (20_memory.md R90): it decodes the
transaction the host presents in the cycle. -/

namespace Sys2Proof.Machine

/-- One rising edge of `clk` (40_pulse_capture.md R150): the cycle of the transaction on the bus, or one without. -/
def step (s : State) : Host.Outcome State Fault Refusal :=
  match s.hostNow.access with
  | none => quietCycle s
  | some tw => exec (decode tw) s

/-- The machine whose host presents the transaction word `w` in the coming cycle, with `rst = 0`; what the host and the
environment present after it is unchanged (log 4). -/
def State.withFetchWord (s : State) (nbits w : Nat) : State :=
  { s with
    hostPort := { rst := false, access := some (BitVec.ofNat 39 (w % 2 ^ nbits)) } :: s.hostPort.tail }

end Sys2Proof.Machine
end

