-- ==== Sys2Proof/Laws/Encoding.lean ====
section
/-! SUPPORT. The fields of a packed transaction word, and decoding by fields. -/

namespace Sys2Proof

/-- The bits of a packed word: data below, then the address, then the write bit (30_encoding.md R100). -/
theorem getLsbD_packTW (we : Bool) (addr : BitVec 6) (wdata : Word) (k : Nat) :
    (packTW we addr wdata).getLsbD k =
      if k < 32 then wdata.getLsbD k else if k - 32 < 6 then addr.getLsbD (k - 32) else (k == 38 && we) := by
  simp only [packTW, BitVec.getLsbD_cast, BitVec.getLsbD_append]
  split
  · rfl
  · split
    · rfl
    · rw [BitVec.getLsbD_ofBool]
      have h38 : k - 32 - 6 = 0 ↔ k = 38 := by omega
      rw [decide_eq_decide.2 h38]; rfl

@[simp] theorem twWe_packTW (we : Bool) (addr : BitVec 6) (wdata : Word) : twWe (packTW we addr wdata) = we := by
  rw [twWe, getLsbD_packTW]; rfl

@[simp] theorem twAddr_packTW (we : Bool) (addr : BitVec 6) (wdata : Word) : twAddr (packTW we addr wdata) = addr := by
  ext k hk
  simp [twAddr, getLsbD_packTW, hk]

@[simp] theorem twWdata_packTW (we : Bool) (addr : BitVec 6) (wdata : Word) : twWdata (packTW we addr wdata) = wdata := by
  ext k hk
  simp [twWdata, getLsbD_packTW, hk]

@[simp] theorem addrWord_append (word : BitVec 4) : addrWord ((word ++ 0#2).cast (rfl : 4 + 2 = 6)) = word := by
  revert word; decide

/-- A transaction word is its three fields. -/
theorem packTW_fields (tw : TransWord) : packTW (twWe tw) (twAddr tw) (twWdata tw) = tw := by
  apply BitVec.eq_of_getLsbD_eq
  intro k hk
  rw [getLsbD_packTW]
  simp only [twWe, twAddr, twWdata, BitVec.getLsbD_extractLsb']
  split
  · simp [*]
  · split
    · rw [Nat.add_sub_cancel' (by omega)]; simp [*]
    · have : k = 38 := by omega
      subst this; simp

/-- Decoding looks at the write bit, the selected word and the data. -/
@[simp] theorem decode_packTW (we : Bool) (addr : BitVec 6) (wdata : Word) :
    decode (packTW we addr wdata) = if we then decodeWrite (addrWord addr) wdata else decodeRead (addrWord addr) := by
  simp [decode]

/-- Every well-formed word `TW` is packed from its fields, so a claim about all words is one about all fields. -/
theorem forall_transWord {p : TransWord → Prop} (h : ∀ we addr wdata, p (packTW we addr wdata)) (tw : TransWord) : p tw :=
  packTW_fields tw ▸ h _ _ _

end Sys2Proof
end

