-- ==== Sys2Proof/Laws/PerInstr.lean ====
section
/-! SUPPORT. Statements about every instruction as syntax, one lemma per constructor of `Instr`. -/

namespace Sys2Proof.Laws.RoundTrip

/-- The word of a well-formed instruction decodes to it. -/
def Statement (i : Instr) : Prop := i.WellFormed → decode (encode i) = i

theorem nop : Statement .nop := fun _ => by decide
theorem start : Statement .start := fun _ => by decide
theorem clearStats : Statement .clearStats := fun _ => by decide
theorem cmdReserved03 : Statement .cmdReserved03 := fun _ => by decide
theorem cmdReserved04to07 (cmd : BitVec 8) : Statement (.cmdReserved04to07 cmd) := by
  revert cmd; unfold Statement; decide
theorem cmdReserved08to0F (cmd : BitVec 8) : Statement (.cmdReserved08to0F cmd) := by
  revert cmd; unfold Statement; decide
theorem cmdReserved10to1F (cmd : BitVec 8) : Statement (.cmdReserved10to1F cmd) := by
  revert cmd; unfold Statement; decide
theorem cmdReserved20to3F (cmd : BitVec 8) : Statement (.cmdReserved20to3F cmd) := by
  revert cmd; unfold Statement; decide
theorem cmdReserved40to7F (cmd : BitVec 8) : Statement (.cmdReserved40to7F cmd) := by
  revert cmd; unfold Statement; decide
theorem cmdReserved80toFF (cmd : BitVec 8) : Statement (.cmdReserved80toFF cmd) := by
  revert cmd; unfold Statement; decide
theorem wrStatus (clearIgn : Bool) : Statement (.wrStatus clearIgn) := by
  revert clearIgn; unfold Statement; decide
theorem wrConfig (deadline : Ticks) (calPresent : Bool) : Statement (.wrConfig deadline calPresent) := fun _ => by
  have hd : ((0#15 ++ BitVec.ofBool calPresent ++ deadline).cast (rfl : 15 + 1 + 16 = 32) : Word).extractLsb' 0 16 = deadline := by
    ext k hk
    simp only [BitVec.getElem_extractLsb', BitVec.getLsbD_cast, BitVec.getLsbD_append]
    simp [hk]
  have hc : ((0#15 ++ BitVec.ofBool calPresent ++ deadline).cast (rfl : 15 + 1 + 16 = 32) : Word).getLsbD 16 = calPresent := by
    simp only [BitVec.getLsbD_cast, BitVec.getLsbD_append]
    simp
  simp only [encode, encodeAt, decode_packTW, addrWord_append, decodeWrite, if_true]
  rw [hd, hc]
theorem wrThresh (thresh : Ticks) : Statement (.wrThresh thresh) := fun _ => by
  have ht : ((0#16 ++ thresh).cast (rfl : 16 + 16 = 32) : Word).extractLsb' 0 16 = thresh := by
    ext k hk
    simp only [BitVec.getElem_extractLsb', BitVec.getLsbD_cast, BitVec.getLsbD_append]
    simp [hk]
  simp only [encode, encodeAt, decode_packTW, addrWord_append, decodeWrite, if_true]
  rw [ht]
theorem wrRo10to1C (word : BitVec 4) : Statement (.wrRo10to1C word) := by
  revert word; unfold Statement; decide
theorem wrRo20to3C (word : BitVec 4) : Statement (.wrRo20to3C word) := by
  revert word; unfold Statement; decide
theorem rdCtrl : Statement .rdCtrl := fun _ => by decide
theorem rdStatus : Statement .rdStatus := fun _ => by decide
theorem rdConfig : Statement .rdConfig := fun _ => by decide
theorem rdThresh : Statement .rdThresh := fun _ => by decide
theorem rdResult : Statement .rdResult := fun _ => by decide
theorem rdLevel : Statement .rdLevel := fun _ => by decide
theorem rdNrCnt : Statement .rdNrCnt := fun _ => by decide
theorem rdPreCnt : Statement .rdPreCnt := fun _ => by decide
theorem rdCkCnt : Statement .rdCkCnt := fun _ => by decide
theorem rdParam : Statement .rdParam := fun _ => by decide
theorem rdRsvd28 : Statement .rdRsvd28 := fun _ => by decide
theorem rdRsvd2C : Statement .rdRsvd2C := fun _ => by decide
theorem rdFrame0 : Statement .rdFrame0 := fun _ => by decide
theorem rdFrame1 : Statement .rdFrame1 := fun _ => by decide
theorem rdFrame2 : Statement .rdFrame2 := fun _ => by decide
theorem rdFrame3 : Statement .rdFrame3 := fun _ => by decide

end Sys2Proof.Laws.RoundTrip

namespace Sys2Proof.Laws.RowMatch

/-- The word of a well-formed instruction is of the row of its mnemonic (spec/opcode_table.json). -/
def Statement (i : Instr) : Prop :=
  i.WellFormed → ∃ r ∈ tableRows, r.mnemonic = i.mnemonic ∧ r.holds (encode i) = true

/-- A row that fixes the write bit and the word alone holds of a packed word whatever its data. -/
theorem packTW_row (m : String) (word : BitVec 4) (wdata : Word)
    (hw : OpRow.holds ⟨m, encodeAt true word 0#32, 0x7C00000000#39⟩ (encodeAt true word 0#32) = true) :
    OpRow.holds ⟨m, encodeAt true word 0#32, 0x7C00000000#39⟩ (encodeAt true word wdata) = true := by
  have h : encodeAt true word wdata &&& 0x7C00000000#39 = encodeAt true word 0#32 &&& 0x7C00000000#39 := by
    apply BitVec.eq_of_getLsbD_eq
    intro k hk
    have hm : (0x7C00000000#39).getLsbD k = decide (34 ≤ k) := by revert k; decide
    simp only [encodeAt, BitVec.getLsbD_and, getLsbD_packTW, hm]
    by_cases h34 : 34 ≤ k
    · simp [show ¬ k < 32 by omega]
    · simp [h34]
  simp only [OpRow.holds] at hw ⊢
  rw [h]; exact hw

theorem nop : Statement .nop := fun _ => by decide
theorem start : Statement .start := fun _ => by decide
theorem clearStats : Statement .clearStats := fun _ => by decide
theorem cmdReserved03 : Statement .cmdReserved03 := fun _ => by decide
theorem cmdReserved04to07 (cmd : BitVec 8) : Statement (.cmdReserved04to07 cmd) := by
  revert cmd; unfold Statement; decide
theorem cmdReserved08to0F (cmd : BitVec 8) : Statement (.cmdReserved08to0F cmd) := by
  revert cmd; unfold Statement; decide
theorem cmdReserved10to1F (cmd : BitVec 8) : Statement (.cmdReserved10to1F cmd) := by
  revert cmd; unfold Statement; decide
theorem cmdReserved20to3F (cmd : BitVec 8) : Statement (.cmdReserved20to3F cmd) := by
  revert cmd; unfold Statement; decide
theorem cmdReserved40to7F (cmd : BitVec 8) : Statement (.cmdReserved40to7F cmd) := by
  revert cmd; unfold Statement; decide
theorem cmdReserved80toFF (cmd : BitVec 8) : Statement (.cmdReserved80toFF cmd) := by
  revert cmd; unfold Statement; decide
theorem wrStatus (clearIgn : Bool) : Statement (.wrStatus clearIgn) := by
  revert clearIgn; unfold Statement; decide
theorem wrConfig (deadline : Ticks) (calPresent : Bool) : Statement (.wrConfig deadline calPresent) := fun _ => by
  refine ⟨⟨"WR_CONFIG", 0x4800000000#39, 0x7C00000000#39⟩, by decide, rfl, ?_⟩
  exact packTW_row _ _ _ (by decide)
theorem wrThresh (thresh : Ticks) : Statement (.wrThresh thresh) := fun _ => by
  refine ⟨⟨"WR_THRESH", 0x4C00000000#39, 0x7C00000000#39⟩, by decide, rfl, ?_⟩
  exact packTW_row _ _ _ (by decide)
theorem wrRo10to1C (word : BitVec 4) : Statement (.wrRo10to1C word) := by
  revert word; unfold Statement; decide
theorem wrRo20to3C (word : BitVec 4) : Statement (.wrRo20to3C word) := by
  revert word; unfold Statement; decide
theorem rdCtrl : Statement .rdCtrl := fun _ => by decide
theorem rdStatus : Statement .rdStatus := fun _ => by decide
theorem rdConfig : Statement .rdConfig := fun _ => by decide
theorem rdThresh : Statement .rdThresh := fun _ => by decide
theorem rdResult : Statement .rdResult := fun _ => by decide
theorem rdLevel : Statement .rdLevel := fun _ => by decide
theorem rdNrCnt : Statement .rdNrCnt := fun _ => by decide
theorem rdPreCnt : Statement .rdPreCnt := fun _ => by decide
theorem rdCkCnt : Statement .rdCkCnt := fun _ => by decide
theorem rdParam : Statement .rdParam := fun _ => by decide
theorem rdRsvd28 : Statement .rdRsvd28 := fun _ => by decide
theorem rdRsvd2C : Statement .rdRsvd2C := fun _ => by decide
theorem rdFrame0 : Statement .rdFrame0 := fun _ => by decide
theorem rdFrame1 : Statement .rdFrame1 := fun _ => by decide
theorem rdFrame2 : Statement .rdFrame2 := fun _ => by decide
theorem rdFrame3 : Statement .rdFrame3 := fun _ => by decide

end Sys2Proof.Laws.RowMatch
end

