-- ==== Sys2Proof/Machine/Environment.lean ====
section
/-! DEFINITION. The environment's and the host's duties that depend on a parameter: the microsecond timebase at F_CLK
(60_exceptions.md R331), and START within SELECT_WINDOW_US (70_reset_and_hazards.md R364, R369). The step assumes neither:
it admits every stream of pins; claims about time and about the first pulse take them as premises. -/

namespace Sys2Proof.Machine

/-- The whole microseconds elapsed before cycle `n` of a clock of F_CLK hertz, `phase` being where in a microsecond the first
cycle begins, in units of `1 / F_CLK` microseconds. -/
def usElapsed (P : Params) (phase n : Nat) : Nat := (n * 1000000 + phase) / P.fClkHz

/-- The strobe `us_tick` of the timebase in cycle `n`: a microsecond ends in it (10_state.md R53, 60_exceptions.md R331).
DESIGN CHOICE (log 16): the strobe is in the cycle in which its microsecond ends. -/
def tickAt (P : Params) (phase n : Nat) : Bool := usElapsed P phase n < usElapsed P phase (n + 1)

/-- The environment keeps its duty on `us_tick` in these cycles (60_exceptions.md R331), at some phase. -/
def Timebase (P : Params) (phase : Nat) (ins : List Inputs) : Prop :=
  ∀ j (h : j < ins.length), ins[j].usTick = tickAt P phase j

/-- What the world beside the block knows of one read (70_reset_and_hazards.md R364, R369). -/
structure Selection where
  /-- microseconds from the end of the select pulse train to START -/
  sinceTrain  : Nat
  /-- microseconds from the end of the select pulse train to the sensor's first low period; none: it never answers
  (92_eei_decisions.md D31: "the environment must be free to not answer") -/
  sensorDelay : Option Nat
  deriving DecidableEq, Repr

/-- "The host must issue START within the window" (70_reset_and_hazards.md R369). -/
def Selection.inWindow (P : Params) (r : Selection) : Bool := decide (r.sinceTrain ≤ P.selectWindowUs)

/-- "DEADLINE must be longer than the sensor's delay from the end of the select train to its first low period"
(70_reset_and_hazards.md R369); of a sensor that never answers, no deadline is. -/
def Selection.deadlineCovers (r : Selection) (b : Block) : Bool :=
  match r.sensorDelay with
  | some d => decide (d < b.cfgDeadline.toNat)
  | none => false

end Sys2Proof.Machine
end

