-- ==== Sys2Proof/Machine/HostProgram.lean ====
section
/-! DEFINITION. Host assembly (30_encoding.md R114): the lines of a host program, their transactions, and the host loop
that presents them. The block sees only the transactions. -/

namespace Sys2Proof.Machine

/-- A line of host assembly: `RD`, `WR`, and the pseudo-instructions (R114). -/
inductive AsmLine where
  | rd (r : Reg)
  | wr (r : Reg) (imm : Word)
  | nop
  | start
  | clrStats
  | clrIgn
  | poll (r : Reg) (mask val : Word)
  | waitDone
  deriving DecidableEq, Repr

/-- The expansion of a pseudo-instruction; every other line is its own (R114). -/
def AsmLine.expand : AsmLine → AsmLine
  | .nop => .wr .ctrl 0x00000000#32
  | .start => .wr .ctrl 0x00000001#32
  | .clrStats => .wr .ctrl 0x00000002#32
  | .clrIgn => .wr .status 0x00000004#32
  | .waitDone => .poll .status 0x00000003#32 0x00000002#32
  | .rd r => .rd r
  | .wr r imm => .wr r imm
  | .poll r mask val => .poll r mask val

/-- The transaction an expanded line presents; a read carries no data, so 0 (R114). -/
def transactionOf : AsmLine → TransWord
  | .wr r imm => packTW true r.offset imm
  | .rd r | .poll r _ _ => packTW false r.offset 0#32
  | .nop | .start | .clrStats | .clrIgn => packTW true Reg.ctrl.offset 0#32
  | .waitDone => packTW false Reg.status.offset 0#32

/-- The transaction word of a line. -/
def AsmLine.assemble (l : AsmLine) : TransWord := transactionOf l.expand

/-- Whether a line is finished by a cycle that answered `rdata`: a POLL repeats "until `(rdata & mask) = val`" (R114). -/
def AsmLine.finished (l : AsmLine) (rdata : Option Word) : Bool :=
  match l.expand with
  | .poll _ mask val =>
    match rdata with
    | some v => v &&& mask == val
    | none => false
  | .rd _ | .wr _ _ | .nop | .start | .clrStats | .clrIgn | .waitDone => true

/-- One cycle of a host running a program: the first line's transaction is presented, and the line is dropped once it is
finished. A program that has ended presents nothing.
DESIGN CHOICE (log 21): the lines are presented in consecutive cycles, a POLL in every cycle until it is finished, with
`rst` 0; the spec leaves the pacing to the host. -/
def hostStep (prog : List AsmLine) (s : State) : List AsmLine × Result :=
  match prog with
  | [] => ([], step { s with hostPort := { rst := false, access := none } :: s.hostPort.tail })
  | l :: rest =>
    let r := step { s with hostPort := { rst := false, access := some l.assemble } :: s.hostPort.tail }
    match r with
    | .next s' => (if l.finished s'.busRdata then rest else l :: rest, r)
    | .fault _ => (l :: rest, r)
    | .refused _ => (l :: rest, r)

end Sys2Proof.Machine
end

