-- ==== Sys2Proof/Safety.lean ====
section
/-! DEFINITION. What claims about the block are stated with: the invariant of its reachable states, the check of
93_implementation_defined.md I14, runs over port inputs, and the widths of the read in flight. -/

namespace Sys2Proof.Machine

/-- The consistency check of 93_implementation_defined.md I14: RESULT.CODE 6 and 7 are unreachable.
DEDUCED (log 13): a check beside the machine. -/
def consistencyCheck (b : Block) : Option Fault :=
  if 6#3 ≤ b.resCode then some (.reservedResultCode b.resCode) else none

/-- When a host may take RESULT, LEVEL and FRAME0..3 as a read's result (70_reset_and_hazards.md R365). -/
def Block.resultsValid (b : Block) : Bool := !b.busy && b.done

/-- The longest count a wait can show: `max(cfg_deadline, 1)`, the ticks a wait lasts at most (40_pulse_capture.md R153). -/
def Block.waitLimit (b : Block) : Nat := max b.cfgDeadline.toNat 1

/-- The invariant of the block's reachable states. -/
structure Block.Inv (P : Params) (b : Block) : Prop where
  /-- `fb` has FRAME_BYTES bytes (10_state.md R35) -/
  frameLength : b.fb.length = P.frameBytes
  /-- "Never exceeds NPULSE" (10_state.md R32) -/
  pulseBound : b.p.toNat ≤ P.npulse
  /-- a capture still has a pulse to measure (40_pulse_capture.md R157, R159) -/
  pulseLeft : b.st = .waitHigh ∨ b.st = .measureLow → b.p.toNat < P.npulse
  /-- "the block enters EVAL with `p = NPULSE`; EVAL is entered in no other way" (40_pulse_capture.md R159) -/
  evalComplete : b.st = .eval → b.p.toNat = P.npulse
  /-- the bound of 10_state.md R33 and R34, during a read (DEDUCED, log 7) -/
  waitBound : b.st ≠ .idle → b.w.toNat < b.waitLimit ∧ b.t.toNat < b.waitLimit
  /-- `res_code <= 5` (30_encoding.md R104) -/
  codeBound : b.resCode.toNat ≤ 5
  /-- DONE tells that RESULT holds an outcome (10_state.md R36, R41) -/
  doneCode : b.done = true ↔ b.resCode ≠ OutcomeCode.none.code
  /-- while a read is in flight, DONE is 0 (10_state.md R56) -/
  busyNotDone : b.st ≠ .idle → b.done = false
  /-- no level and no diagnostics with any other outcome than OK (30_encoding.md R111, 10_state.md R42) -/
  onlyOkHasLevel : b.resCode ≠ OutcomeCode.ok.code →
    b.levelQ = 0#15 ∧ b.resLvl = 0#4 ∧ b.resBase = 0#4 ∧ b.resAllzero = false ∧ b.resGuard = false
  /-- "Range 0 .. 25600" (10_state.md R42) -/
  levelBound : b.levelQ.toNat ≤ 25600
  /-- segment indices `Lv <= B`, below N_SEG (30_encoding.md R111, 42_level_mapping.md R242) -/
  segmentOrder : b.resLvl.toNat ≤ b.resBase.toNat ∧ b.resBase.toNat < P.nseg
  /-- an all-zero payload gives level 0, segments 0 and no guard (42_level_mapping.md R240, R250) -/
  allZero : b.resAllzero = true → b.levelQ = 0#15 ∧ b.resBase = 0#4 ∧ b.resGuard = false
  /-- the guard means one nonzero segment (42_level_mapping.md R245) -/
  guarded : b.resGuard = true → b.resLvl = b.resBase
  /-- every bit of `fb` from pulse `p` on is 0 (10_state.md R35, 40_pulse_capture.md R160) -/
  unwritten : ∀ q, b.p.toNat ≤ q → q < P.npulse → frameBit b.fb q = false

/-- The machine's invariant: its block's, at this hardware's parameters. -/
def State.Inv (s : State) : Prop := s.block.Inv Config.params

/-- The block after this cycle if it is neither reset nor accessed: the capture part alone (40_pulse_capture.md R150). -/
def State.quietBlock (s : State) : Block :=
  cyclePorts Config.params s.block { s.inputsNow with rst := false, busEn := false }

/-- The block after a list of cycles, the first input first. -/
def runPorts (P : Params) (b : Block) (ins : List Inputs) : Block := ins.foldl (cyclePorts P) b

/-- The number of microsecond ticks among some cycles. -/
def tickCount (ins : List Inputs) : Nat := ins.countP (fun inp => inp.usTick)

/-- These cycles after START come before the sensor's first low period: of a read started within SELECT_WINDOW_US, the line
is high in all of them, and no more microseconds pass than the sensor's delay leaves (70_reset_and_hazards.md R369). Of a read
started outside the window nothing is said: any stream may follow (93_implementation_defined.md I8). DEDUCED (log 19). -/
def Selection.BeforeAnswer (P : Params) (r : Selection) (ins : List Inputs) : Prop :=
  r.inWindow P = true →
    (∀ inp ∈ ins, inp.resp = true) ∧ ∀ d, r.sensorDelay = some d → r.sinceTrain + tickCount ins ≤ d

/-- A START is on the bus in this cycle (30_encoding.md R103), and no reset. -/
def Inputs.startNow (inp : Inputs) : Bool :=
  !inp.rst && inp.busEn && inp.busWe && addrWord inp.busAddr == 0x0#4 && inp.busWdata.extractLsb' 0 8 == 0x01#8

/-- A CLEAR_STATS is on the bus in this cycle (30_encoding.md R103), and no reset. -/
def Inputs.clearNow (inp : Inputs) : Bool :=
  !inp.rst && inp.busEn && inp.busWe && addrWord inp.busAddr == 0x0#4 && inp.busWdata.extractLsb' 0 8 == 0x02#8

/-- A block with the widths of the pulses completed in the read in flight (40_pulse_capture.md R160): a record that claims
are stated with, which the block does not hold. -/
structure Traced where
  block  : Block
  widths : List Ticks
  deriving DecidableEq, Repr

/-- A cycle, and the width of the pulse that it completes. -/
def Traced.cycle (P : Params) (x : Traced) (inp : Inputs) : Traced where
  block := cyclePorts P x.block inp
  widths :=
    if inp.rst then []
    else
      match x.block.st with
      | .idle => if inp.startNow then [] else x.widths
      | .measureLow => if inp.resp then x.widths ++ [x.block.w] else x.widths
      | .waitHigh | .eval => x.widths

/-- The capture invariant (40_pulse_capture.md R160), with the block's. -/
structure Traced.Inv (P : Params) (x : Traced) : Prop where
  block : x.block.Inv P
  /-- one width per completed pulse -/
  length : x.block.st ≠ .idle → x.widths.length = x.block.p.toNat
  /-- each completed pulse's bit is its width's class -/
  bits : x.block.st ≠ .idle → ∀ q, q < x.block.p.toNat →
    frameBit x.block.fb q = classify (x.widths.getD q 0#16) x.block.cfgThresh

/-- The traced block after a list of cycles from reset. -/
def tracedRun (P : Params) (ins : List Inputs) : Traced :=
  ins.foldl (Traced.cycle P) { block := Block.reset P, widths := [] }

/-- The most ticks a read in flight can still take: one wait per level and pulse left, each of `waitLimit` ticks
(40_pulse_capture.md R162). -/
def Block.ticksLeft (P : Params) (b : Block) : Nat :=
  match b.st with
  | .waitHigh => 2 * (P.npulse - b.p.toNat) * b.waitLimit - b.t.toNat
  | .measureLow => (2 * (P.npulse - b.p.toNat) - 1) * b.waitLimit - b.w.toNat
  | .idle | .eval => 0

end Sys2Proof.Machine
end

