-- ==== Sys2Proof/Certificates/Slice0/Obligations.lean ====
section
/-! DEFINITION. The statements for the provers. Each docstring names the rules of spec/ it formalises. -/

open Sys2Proof Sys2Proof.Machine

/-! ## Encoding -/

/-- Transaction words written out from 30_encoding.md R100 and R103 and 95_test_vectors.md 3.8 decode to the operations
they stand for, one or more of every family. -/
def Obligations.WrittenOutWordsDecode : Prop :=
  decode 0x4000000000#39 = .nop ∧ decode 0x4000000001#39 = .start ∧ decode 0x4000000002#39 = .clearStats ∧
  decode 0x4000000003#39 = .cmdReserved03 ∧ decode 0x40000000FF#39 = .cmdReserved80toFF 0xFF#8 ∧
  decode 0x4400000004#39 = .wrStatus true ∧ decode 0x44FFFFFFFB#39 = .wrStatus false ∧
  decode 0x48FFFF0064#39 = .wrConfig 100#16 true ∧ decode 0x4C00120020#39 = .wrThresh 0x20#16 ∧
  decode 0x5400006400#39 = .wrRo10to1C 0x5#4 ∧ decode 0x7012345678#39 = .wrRo20to3C 0xC#4 ∧
  decode 0x0E00000000#39 = .rdThresh ∧ decode 0x0400000000#39 = .rdStatus ∧ decode 0x2400000000#39 = .rdParam ∧
  decode 0x3800000000#39 = .rdFrame2

/-- Decoding the word of a well-formed operation gives it back, with every operand at every value the encoding admits
(30_encoding.md R100, R101, R103). -/
def Obligations.DecodeEncodeRoundTrip : Prop :=
  ∀ i : Instr, i.WellFormed → decode (encode i) = i

/-- Each transaction word decodes to a well-formed operation, and encoding that operation gives the word back with its
ignored bits cleared: no bit that carries an operand is lost, and no ignored bit is kept (R101, R112). -/
def Obligations.EncodeDecodeKeepsSignificantBits : Prop :=
  ∀ tw : TransWord, (decode tw).WellFormed ∧ encode (decode tw) = tw &&& significantBits (decode tw)

/-- Two words that agree on the significant bits of the first's operation are the same operation: `addr[1:0]`, a read's
data, the data above a command code and the reserved bits of a register have no effect (R82, R103, R112). -/
def Obligations.IgnoredBitsHaveNoEffect : Prop :=
  ∀ tw tw' : TransWord, tw &&& significantBits (decode tw) = tw' &&& significantBits (decode tw) → decode tw' = decode tw

/-- 30_encoding.md R102: every transaction word is of exactly one row of the opcode table, the row of the operation it
decodes to; and the operation is selected by `we` and `addr[5:2]`, and by `wdata[7:0]` for a write to CTRL only. -/
def Obligations.EveryWordIsOfExactlyOneRow : Prop :=
  (∀ tw : TransWord, ∃ r ∈ tableRows, r.holds tw = true ∧ r.mnemonic = (decode tw).mnemonic ∧
    ∀ r' ∈ tableRows, r'.holds tw = true → r' = r) ∧
  (∀ tw tw' : TransWord, twWe tw = twWe tw' → addrWord (twAddr tw) = addrWord (twAddr tw') →
    (twWe tw = true → addrWord (twAddr tw) = 0x0#4 → (twWdata tw).extractLsb' 0 8 = (twWdata tw').extractLsb' 0 8) →
    (decode tw).mnemonic = (decode tw').mnemonic)

/-! ## The step -/

/-- With a transaction on the bus, a step is `exec` of the decoded operation at the same state; without one, the cycle of
the block alone. `exec` uses up the cycle's pins itself. A well-formed operation stored by `withFetchWord` is the one the
next step runs. -/
def Obligations.StepRunsTheDecodedTransaction : Prop :=
  (∀ (s : State) (tw : TransWord), s.hostNow.access = some tw → step s = exec (decode tw) s) ∧
  (∀ s : State, s.hostNow.access = none → step s = quietCycle s) ∧
  (∀ (s : State) (i : Instr), i.WellFormed →
    step (s.withFetchWord 40 (encode i).toNat) = exec i (s.withFetchWord 40 (encode i).toNat))

/-- A step is the procedure `Cycle` of 40_pulse_capture.md R150 over the raw ports, with `HostWrite` of
43_host_commands.md R290 selected by the address, and `bus_rdata` is `ReadReg` of R281 at the start-of-cycle state; the
cycle's pins are used up and nothing else changes. -/
def Obligations.StepIsTheCycleOverThePorts : Prop :=
  ∀ s : State, step s = .next (s.nextCycle (cyclePorts Config.params s.block s.inputsNow)
    (rdataPorts Config.params s.block s.inputsNow))

/-- 60_exceptions.md R332: no access raises an error or a fault, each completes in one cycle. -/
def Obligations.EveryAccessCompletesInOneCycle : Prop :=
  (∀ (i : Instr) (s : State), ∃ t, exec i s = .next t ∧ t.cycleNo = s.cycleNo + 1) ∧
  (∀ s : State, ∃ t, step s = .next t ∧ t.cycleNo = s.cycleNo + 1)

/-! ## Reset -/

/-- 10_state.md R55: the value of every state element after reset, and the read value of every register. -/
def Obligations.ResetLeavesTheTabledValues : Prop :=
  State.reset.block =
    { st := .idle, p := 0#8, w := 0#16, t := 0#16, fb := [0, 0, 0, 0, 0, 0, 0, 0, 0, 0, 0, 0], done := false, ign := false,
      cfgDeadline := 0x03E8#16, cfgCal := false, cfgThresh := 0x001A#16, resCode := 0#3, resLvl := 0#4, resBase := 0#4,
      resAllzero := false, resGuard := false, levelQ := 0#15, nrCnt := 0#32, preCnt := 0#32, ckCnt := 0#32 } ∧
  readReg Config.params State.reset.block Reg.config.offset = 0x000003E8#32 ∧
  readReg Config.params State.reset.block Reg.thresh.offset = 0x0000001A#32 ∧
  readReg Config.params State.reset.block Reg.param.offset = 0x0000600C#32 ∧
  (∀ r : Reg, r ≠ .config → r ≠ .thresh → r ≠ .param → readReg Config.params State.reset.block r.offset = 0#32)

/-- 70_reset_and_hazards.md R360: a cycle with `rst = 1` takes every element to its reset value whatever else is
presented, a write among it, and a read in that cycle returns the pre-reset word. -/
def Obligations.ResetOverridesTheCycle : Prop :=
  ∀ s : State, s.hostNow.rst = true → ∃ t, step s = .next t ∧ t.block = State.reset.block ∧
    t.busRdata = rdataPorts Config.params s.block s.inputsNow ∧
    t.block.st = .idle ∧ t.block.resCode = OutcomeCode.none.code ∧ t.block.cfgDeadline = 1000#16 ∧
    t.block.cfgCal = false ∧ t.block.cfgThresh = 26#16 ∧ t.block.nrCnt = 0#32 ∧ t.block.preCnt = 0#32 ∧
    t.block.ckCnt = 0#32

/-! ## The capture part of a cycle -/

/-- An IDLE block ignores the response line and the tick (40_pulse_capture.md R150; 70_reset_and_hazards.md R361): without
a transaction it keeps every element, its counters among them. -/
def Obligations.IdleBlockKeepsEverything : Prop :=
  ∀ (P : Params) (b : Block) (inp : Inputs), b.st = .idle → inp.rst = false → inp.busEn = false → cyclePorts P b inp = b

/-- 40_pulse_capture.md R151, the WAIT_HIGH step, for a cycle without a transaction: every element after it. -/
def Obligations.WaitHighStepOutcomes : Prop :=
  ∀ (P : Params) (b : Block) (inp : Inputs), b.st = .waitHigh → inp.rst = false → inp.busEn = false →
    (inp.resp = false → cyclePorts P b inp = { b with st := .measureLow, w := 0#16 }) ∧
    (inp.resp = true → inp.usTick = false → cyclePorts P b inp = b) ∧
    (inp.resp = true → inp.usTick = true → b.t.toNat + 1 < b.cfgDeadline.toNat →
      cyclePorts P b inp = { b with t := BitVec.ofNat 16 (b.t.toNat + 1) }) ∧
    (inp.resp = true → inp.usTick = true → b.cfgDeadline.toNat ≤ b.t.toNat + 1 →
      cyclePorts P b inp = { b with
        st := .idle, done := true, resCode := 2#3, levelQ := 0#15, resLvl := 0#4, resBase := 0#4, resAllzero := false,
        resGuard := false, nrCnt := BitVec.ofNat 32 (min (b.nrCnt.toNat + 1) (2 ^ 32 - 1)) })

/-- 40_pulse_capture.md R152, the MEASURE_LOW step, for a cycle without a transaction: every element after it. -/
def Obligations.MeasureLowStepOutcomes : Prop :=
  ∀ (P : Params) (b : Block) (inp : Inputs), b.st = .measureLow → inp.rst = false → inp.busEn = false →
    (inp.resp = true → cyclePorts P b inp = { b with
      fb := placeBit b.fb b.p.toNat (decide (b.w.toNat < b.cfgThresh.toNat)), p := b.p + 1#8, t := 0#16,
      st := if b.p.toNat + 1 = P.npulse then .eval else .waitHigh }) ∧
    (inp.resp = false → inp.usTick = false → cyclePorts P b inp = b) ∧
    (inp.resp = false → inp.usTick = true → b.w.toNat + 1 < b.cfgDeadline.toNat →
      cyclePorts P b inp = { b with w := BitVec.ofNat 16 (b.w.toNat + 1) }) ∧
    (inp.resp = false → inp.usTick = true → b.cfgDeadline.toNat ≤ b.w.toNat + 1 →
      cyclePorts P b inp = { b with
        st := .idle, done := true, resCode := 2#3, levelQ := 0#15, resLvl := 0#4, resBase := 0#4, resAllzero := false,
        resGuard := false, nrCnt := BitVec.ofNat 32 (min (b.nrCnt.toNat + 1) (2 ^ 32 - 1)) })

/-- 40_pulse_capture.md R153: each wait, from its entry, fails at exactly the tick that makes its count reach
`max(cfg_deadline, 1)` with the line still at the waited level, whatever the host does in the meantime: after the ticks
before it the wait still lasts and shows their number, and after it the read has ended in NO_RESPONSE with the pulses and
the frame as they were. -/
def Obligations.EachWaitFailsAtItsDeadlineTick : Prop :=
  ∀ (P : Params) (b : Block) (ins : List Inputs) (last : Inputs),
    (∀ inp ∈ ins, inp.rst = false) → last.rst = false → last.usTick = true → tickCount ins + 1 = b.waitLimit →
    (b.st = .waitHigh → b.t = 0#16 → (∀ inp ∈ ins, inp.resp = true) → last.resp = true →
      ((runPorts P b ins).st = .waitHigh ∧ (runPorts P b ins).t.toNat = tickCount ins) ∧
      ((runPorts P b (ins ++ [last])).st = .idle ∧ (runPorts P b (ins ++ [last])).done = true ∧
        (runPorts P b (ins ++ [last])).resCode = OutcomeCode.noResponse.code ∧
        (runPorts P b (ins ++ [last])).p = b.p ∧ (runPorts P b (ins ++ [last])).fb = b.fb)) ∧
    (b.st = .measureLow → b.w = 0#16 → (∀ inp ∈ ins, inp.resp = false) → last.resp = false →
      ((runPorts P b ins).st = .measureLow ∧ (runPorts P b ins).w.toNat = tickCount ins) ∧
      ((runPorts P b (ins ++ [last])).st = .idle ∧ (runPorts P b (ins ++ [last])).done = true ∧
        (runPorts P b (ins ++ [last])).resCode = OutcomeCode.noResponse.code ∧
        (runPorts P b (ins ++ [last])).p = b.p ∧ (runPorts P b (ins ++ [last])).fb = b.fb))

/-- 40_pulse_capture.md R154: the width of a low period is the number of ticks among the cycles in which `st = MEASURE_LOW`
and `resp = 0`; the cycle that first sees the line low, in WAIT_HIGH, counts none. With ticks strictly periodic with
period `K` and any phase, a line low for `n` cycles measures `floor((n - 1) / K)` or `ceil((n - 1) / K)`. -/
def Obligations.WidthIsTheTicksOfTheLowPeriod : Prop :=
  ∀ (P : Params) (b : Block) (first : Inputs) (lows : List Inputs),
    b.st = .waitHigh → first.rst = false → first.resp = false → (∀ inp ∈ lows, inp.rst = false ∧ inp.resp = false) →
    tickCount lows < b.waitLimit →
    ((runPorts P b (first :: lows)).st = .measureLow ∧ (runPorts P b (first :: lows)).w.toNat = tickCount lows) ∧
    (∀ K phase : Nat, 0 < K → (∀ j (h : j < lows.length), lows[j].usTick = decide ((j + phase) % K = 0)) →
      (runPorts P b (first :: lows)).w.toNat = lows.length / K ∨
      (runPorts P b (first :: lows)).w.toNat = (lows.length + K - 1) / K)

/-- 40_pulse_capture.md R156: a width below the threshold is bit 1, any other is bit 0; the corner cases. -/
def Obligations.WidthBelowThresholdIsBitOne : Prop :=
  (∀ w thr : Ticks, classify w thr = true ↔ w.toNat < thr.toNat) ∧
  (∀ thr : Ticks, classify thr thr = false) ∧ (∀ w : Ticks, classify w 0#16 = false) ∧
  (∀ thr : Ticks, 1 ≤ thr.toNat → classify 0#16 thr = true) ∧
  (∀ (P : Params) (b : Block), b.Inv P → b.st = .measureLow → b.waitLimit ≤ b.cfgThresh.toNat →
    classify b.w b.cfgThresh = true) ∧
  classify 10#16 26#16 = true ∧ classify 25#16 26#16 = true ∧ classify 26#16 26#16 = false ∧ classify 30#16 26#16 = false

/-- 40_pulse_capture.md R157: placing the bit of pulse `p` writes bit `7 - (p mod 8)` of byte `p div 8` and leaves every
other bit of the frame buffer, and its length, as they were. -/
def Obligations.PlacedBitIsTheOnlyOneWritten : Prop :=
  ∀ (fb : List Byte) (p : Nat) (bit : Bool), p < 8 * fb.length →
    (placeBit fb p bit).length = fb.length ∧
    ((placeBit fb p bit).getD (p / 8) 0#8).getLsbD (7 - p % 8) = bit ∧
    (∀ i k, k < 8 → ¬ (i = p / 8 ∧ k = 7 - p % 8) →
      ((placeBit fb p bit).getD i 0#8).getLsbD k = (fb.getD i 0#8).getLsbD k)

/-- 30_encoding.md R107 and 40_pulse_capture.md R158: NPULSE widths decode to FRAME_BYTES bytes, byte `b` being the sum over
`j` of the class of width `8b + j` times `2^(7 - j)`; any other number of widths is no frame, and its verdict NO_RESPONSE. -/
def Obligations.FrameIsDecodedMostSignificantBitFirst : Prop :=
  ∀ (P : Params) (ws : List Ticks) (thr : Ticks),
    (ws.length = P.npulse → ∃ frame, decodeFrame P ws thr = some frame ∧ frame.length = P.frameBytes ∧
      ∀ b, b < P.frameBytes → (frame.getD b 0#8).toNat =
        ((List.range 8).map (fun j => (classify (ws.getD (8 * b + j) 0#16) thr).toNat * 2 ^ (7 - j))).sum) ∧
    (ws.length ≠ P.npulse → decodeFrame P ws thr = none ∧ captureVerdict P ws thr = .noResponse)

/-- Every cycle keeps the capture invariant of 40_pulse_capture.md R160, with the block's own, at every legal size. -/
def Obligations.EveryCycleKeepsTheCaptureInvariant : Prop :=
  ∀ (P : Params) (x : Traced) (inp : Inputs), P.Legal → x.Inv P → (x.cycle P inp).Inv P

/-- 40_pulse_capture.md R160: after any cycles from reset, while a read is in flight, each completed pulse's bit of the
frame buffer is its width's class and every other bit is 0; on entry to EVAL the frame buffer is the decoded frame. -/
def Obligations.FrameBufferHoldsTheDecodedWidths : Prop :=
  ∀ (P : Params) (ins : List Inputs), P.Legal → (tracedRun P ins).block.st ≠ .idle →
    (tracedRun P ins).widths.length = (tracedRun P ins).block.p.toNat ∧
    (∀ q, q < (tracedRun P ins).block.p.toNat → frameBit (tracedRun P ins).block.fb q =
      classify ((tracedRun P ins).widths.getD q 0#16) (tracedRun P ins).block.cfgThresh) ∧
    (∀ q, (tracedRun P ins).block.p.toNat ≤ q → q < P.npulse → frameBit (tracedRun P ins).block.fb q = false) ∧
    ((tracedRun P ins).block.st = .eval →
      decodeFrame P (tracedRun P ins).widths (tracedRun P ins).block.cfgThresh = some (tracedRun P ins).block.fb)

/-- 40_pulse_capture.md R162: a read that receives `2 x NPULSE x max(cfg_deadline, 1)` ticks after its START ends, with an
outcome, within those cycles and one more, whatever the host presents, unless it is reset; and without ticks a wait whose
line stays at its level lasts for ever. -/
def Obligations.EveryReadEndsGivenTicks : Prop :=
  (∀ (P : Params) (b : Block) (ins : List Inputs) (last : Inputs),
    b.st = .waitHigh → b.p = 0#8 → b.t = 0#16 → P.Legal → (∀ inp ∈ ins, inp.rst = false) → last.rst = false →
    2 * P.npulse * b.waitLimit ≤ tickCount ins →
    ∃ pre, pre <+: (ins ++ [last]) ∧ (runPorts P b pre).st = .idle ∧ (runPorts P b pre).done = true ∧
      1 ≤ (runPorts P b pre).resCode.toNat ∧ (runPorts P b pre).resCode.toNat ≤ 5) ∧
  (∀ (P : Params) (b : Block) (ins : List Inputs), (∀ inp ∈ ins, inp.rst = false ∧ inp.usTick = false) →
    (b.st = .waitHigh → (∀ inp ∈ ins, inp.resp = true) → (runPorts P b ins).st = .waitHigh) ∧
    (b.st = .measureLow → (∀ inp ∈ ins, inp.resp = false) → (runPorts P b ins).st = .measureLow))

/-! ## Validation and the end of a read -/

/-- 41_frame_validation.md R201: the preamble passes exactly when its high nibble is 1001; a whole frame whose preamble does
not pass, and no other, is a preamble error. -/
def Obligations.PreamblePassesIffHighNibbleIsNine : Prop :=
  (∀ b0 : Byte, preambleOk b0 = true ↔ b0.toNat / 16 = 9) ∧ preambleOk 0x9F#8 = true ∧ preambleOk 0x8F#8 = false ∧
  (∀ (P : Params) (frame : List Byte), P.frameBytes ≤ frame.length →
    (validate P frame = .preambleError ↔ (frame.getD 0 0#8).toNat / 16 ≠ 9))

/-- 41_frame_validation.md R202: the checksum passes exactly when `(sum(payload) - (2 + header)) mod 256 = 0`, over the
integers; the preamble byte is not part of it; and a whole frame with a good preamble is a checksum error exactly when it
does not pass. -/
def Obligations.ChecksumIsTheModulo256Comparison : Prop :=
  ∀ (P : Params) (frame : List Byte),
    (checksumOk P frame = true ↔
      ((((payloadOf P frame).map BitVec.toNat).sum : Int) - (2 + ((frame.getD 1 0#8).toNat : Int))) % 256 = 0) ∧
    (P.frameBytes ≤ frame.length → preambleOk (frame.getD 0 0#8) = true →
      (validate P frame = .checksumError ↔
        ((((payloadOf P frame).map BitVec.toNat).sum : Int) - (2 + ((frame.getD 1 0#8).toNat : Int))) % 256 ≠ 0))

/-- 41_frame_validation.md R200, R203, R207, R208: one verdict per frame, a short frame before the preamble before the
checksum, and the payload from byte 2 on. -/
def Obligations.VerdictsComeInTheirOrder : Prop :=
  ∀ (P : Params) (frame : List Byte),
    (frame.length < P.frameBytes → validate P frame = .noResponse) ∧
    (P.frameBytes ≤ frame.length → preambleOk (frame.getD 0 0#8) = false → validate P frame = .preambleError) ∧
    (P.frameBytes ≤ frame.length → preambleOk (frame.getD 0 0#8) = true → checksumOk P frame = false →
      validate P frame = .checksumError) ∧
    (P.frameBytes ≤ frame.length → preambleOk (frame.getD 0 0#8) = true → checksumOk P frame = true →
      ∃ payload, validate P frame = .ok payload ∧ payload.length = P.nseg ∧
        ∀ i, i < P.nseg → payload.getD i 0#8 = frame.getD (i + 2) 0#8)

/-- 41_frame_validation.md R204, 60_exceptions.md R322 to R324: the EVAL cycle, without a transaction, of a block with a
whole frame ends the read with the outcome of its verdict, and leaves every element but those `Finish` writes; the pulse
count and the frame stay. -/
def Obligations.EvalEndsTheReadWithItsOutcome : Prop :=
  ∀ (P : Params) (b : Block) (inp : Inputs), P.Legal → b.st = .eval → b.fb.length = P.frameBytes → inp.rst = false →
    inp.busEn = false →
    (validate P b.fb = .preambleError → cyclePorts P b inp = { b with
        st := .idle, done := true, resCode := 3#3, levelQ := 0#15, resLvl := 0#4, resBase := 0#4, resAllzero := false,
        resGuard := false, preCnt := BitVec.ofNat 32 (min (b.preCnt.toNat + 1) (2 ^ 32 - 1)) }) ∧
    (validate P b.fb = .checksumError → cyclePorts P b inp = { b with
        st := .idle, done := true, resCode := 4#3, levelQ := 0#15, resLvl := 0#4, resBase := 0#4, resAllzero := false,
        resGuard := false, ckCnt := BitVec.ofNat 32 (min (b.ckCnt.toNat + 1) (2 ^ 32 - 1)) }) ∧
    (∀ payload, validate P b.fb = .ok payload → estimate P.avgNorm payload b.cfgCal = .unsupported →
      cyclePorts P b inp = { b with
        st := .idle, done := true, resCode := 5#3, levelQ := 0#15, resLvl := 0#4, resBase := 0#4, resAllzero := false,
        resGuard := false }) ∧
    (∀ payload L lvl base az g, validate P b.fb = .ok payload →
      estimate P.avgNorm payload b.cfgCal = .level L lvl base az g → cyclePorts P b inp = { b with
        st := .idle, done := true, resCode := 1#3, levelQ := BitVec.ofNat 15 (L * 256).floor.toNat,
        resLvl := BitVec.ofNat 4 lvl, resBase := BitVec.ofNat 4 base, resAllzero := az, resGuard := g }) ∧
    validate P b.fb ≠ .noResponse

/-- 41_frame_validation.md R206: a counter goes up, by one and saturating, in exactly the cycles that end a read with its
outcome, from 0 when CLEAR_STATS is written in the same cycle; no other cycle but a reset or a CLEAR_STATS changes it. -/
def Obligations.CountersCountFailedReadsAndSaturate : Prop :=
  ∀ (P : Params) (b : Block) (inp : Inputs), inp.rst = false →
    ((cyclePorts P b inp).nrCnt.toNat =
      min ((if inp.clearNow then 0 else b.nrCnt.toNat) +
        (if b.busy ∧ (cyclePorts P b inp).st = .idle ∧ (cyclePorts P b inp).resCode = 2#3 then 1 else 0)) (2 ^ 32 - 1)) ∧
    ((cyclePorts P b inp).preCnt.toNat =
      min ((if inp.clearNow then 0 else b.preCnt.toNat) +
        (if b.busy ∧ (cyclePorts P b inp).st = .idle ∧ (cyclePorts P b inp).resCode = 3#3 then 1 else 0)) (2 ^ 32 - 1)) ∧
    ((cyclePorts P b inp).ckCnt.toNat =
      min ((if inp.clearNow then 0 else b.ckCnt.toNat) +
        (if b.busy ∧ (cyclePorts P b inp).st = .idle ∧ (cyclePorts P b inp).resCode = 4#3 then 1 else 0)) (2 ^ 32 - 1))

/-! ## The level -/

/-- 42_level_mapping.md R241, R242: `baseSegment` is the highest and `levelSegment` the lowest index of a nonzero segment;
they are equal exactly when one segment is nonzero. -/
def Obligations.SegmentsAreTheExtremeNonzeroOnes : Prop :=
  ∀ payload : List Byte, (∃ v ∈ payload, v ≠ 0#8) →
    (baseSegment payload < payload.length ∧ payload.getD (baseSegment payload) 0#8 ≠ 0#8 ∧
      ∀ i, i < payload.length → payload.getD i 0#8 ≠ 0#8 → i ≤ baseSegment payload) ∧
    (levelSegment payload < payload.length ∧ payload.getD (levelSegment payload) 0#8 ≠ 0#8 ∧
      ∀ i, i < payload.length → payload.getD i 0#8 ≠ 0#8 → levelSegment payload ≤ i) ∧
    levelSegment payload ≤ baseSegment payload ∧
    (levelSegment payload = baseSegment payload ↔
      ∃ i, i < payload.length ∧ payload.getD i 0#8 ≠ 0#8 ∧
        ∀ j, j < payload.length → payload.getD j 0#8 ≠ 0#8 → j = i)

/-- 42_level_mapping.md R240, R251 and 90_conflicts.md C2: an all-zero payload is 0 % whatever the calibration bit; with
calibration present any other payload is unsupported; without it, it is a level, and the all-zero bit is 0. -/
def Obligations.AllZeroComesBeforeCalibration : Prop :=
  ∀ (norm : AvgNorm) (payload : List Byte),
    ((∀ v ∈ payload, v = 0#8) → ∀ cal, estimate norm payload cal = .level 0 0 0 true false) ∧
    ((∃ v ∈ payload, v ≠ 0#8) → estimate norm payload true = .unsupported ∧
      ∃ L g, estimate norm payload false = .level L (levelSegment payload) (baseSegment payload) false g)

/-- 42_level_mapping.md R245: when the tail is empty or sums to zero, the level segment is the base segment, the level is
`100 / (B + 1)` and GUARD is 1; otherwise GUARD is 0. -/
def Obligations.GuardedLevelIsOneSegment : Prop :=
  ∀ (norm : AvgNorm) (payload : List Byte), (∃ v ∈ payload, v ≠ 0#8) →
    (tailCount payload (levelSegment payload) = 0 ∨ tailSum payload (levelSegment payload) = 0 →
      levelSegment payload = baseSegment payload ∧
      estimate norm payload false =
        .level (100 / ((baseSegment payload : Rat) + 1)) (levelSegment payload) (baseSegment payload) false true) ∧
    (tailCount payload (levelSegment payload) ≠ 0 → tailSum payload (levelSegment payload) ≠ 0 →
      ∃ L, estimate norm payload false = .level L (levelSegment payload) (baseSegment payload) false false)

/-- 42_level_mapping.md R246: without the guard, `raw = 100 payload[Lv] n_t / S_t + 100 (B - Lv) / (B + 1)` for MEAN, the
same with `n_t` replaced by 1 for SUM, never negative; and the level is `raw` clamped at 100 (R247). -/
def Obligations.UnguardedLevelIsTheClosedForm : Prop :=
  ∀ (norm : AvgNorm) (payload : List Byte) (B Lv : Nat), (∃ v ∈ payload, v ≠ 0#8) →
    B = baseSegment payload → Lv = levelSegment payload → tailCount payload Lv ≠ 0 → tailSum payload Lv ≠ 0 →
    ∃ raw : Rat, raw = rawLevel (levelRatio norm payload B Lv).1 B Lv ∧
      raw = 100 * (reading payload Lv : Rat) * (match norm with | .mean => (tailCount payload Lv : Rat) | .sum => 1) /
        (tailSum payload Lv : Rat) + 100 * ((B : Rat) - (Lv : Rat)) / ((B : Rat) + 1) ∧
      0 ≤ raw ∧ estimate norm payload false = .level (min raw 100) Lv B false false

/-- 42_level_mapping.md R247, 00_scope.md R11, 30_encoding.md R110: every level is in [0, 100], and what the block records
of it is in 0 .. 25600, without loss to the field's width. -/
def Obligations.LevelsAreInRange : Prop :=
  ∀ (norm : AvgNorm) (payload : List Byte) (cal : Bool) (L : Rat) (lvl base : Nat) (az g : Bool),
    estimate norm payload cal = .level L lvl base az g →
    0 ≤ L ∧ L ≤ 100 ∧ (levelBits L).toNat ≤ 25600 ∧ ((levelBits L).toNat : Int) = (L * 256).floor

/-- 42_level_mapping.md R248: the integer datapath computes exactly the level the block records, `floor(L * 256)`. -/
def Obligations.IntegerDatapathComputesTheLevel : Prop :=
  ∀ (norm : AvgNorm) (payload : List Byte) (L : Rat) (lvl base : Nat) (g : Bool),
    estimate norm payload false = .level L lvl base false g →
    (levelQ norm payload base lvl : Int) = (L * 256).floor ∧ levelQ norm payload base lvl = (levelBits L).toNat

/-- 42_level_mapping.md R249: with at most 14 segments the numerator is below `2^32` and the denominator below `2^16`, and
so are the bounds on their terms. -/
def Obligations.DatapathFitsItsDivider : Prop :=
  ∀ (norm : AvgNorm) (payload : List Byte), payload.length ≤ 14 → (∃ v ∈ payload, v ≠ 0#8) →
    reading payload (levelSegment payload) ≤ 255 ∧ normFactor norm payload (levelSegment payload) ≤ 13 ∧
    baseSegment payload + 1 ≤ 14 ∧ tailSum payload (levelSegment payload) ≤ 13 * 255 ∧
    levelNum norm payload (baseSegment payload) (levelSegment payload) ≤ 2291328000 ∧ 2291328000 < 2 ^ 32 ∧
    levelDen payload (baseSegment payload) (levelSegment payload) ≤ 46410 ∧ 46410 < 2 ^ 16

/-- The golden scenario, 95_test_vectors.md E6: payload `[0, 0, 80, 255, 255]`, MEAN and SUM. -/
def Obligations.GoldenScenarioLevels : Prop :=
  baseSegment [0, 0, 80, 255, 255] = 4 ∧ levelSegment [0, 0, 80, 255, 255] = 2 ∧
  estimate .mean [0, 0, 80, 255, 255] false = .level (3640 / 51) 2 4 false false ∧
  estimate .sum [0, 0, 80, 255, 255] false = .level (2840 / 51) 2 4 false false ∧
  levelQ .mean [0, 0, 80, 255, 255] 4 2 = 18271 ∧ levelQ .sum [0, 0, 80, 255, 255] 4 2 = 14255

/-! ## The host operations

`s.quietBlock` is the block after this cycle's capture part alone (40_pulse_capture.md R150); what it is in each state is
said above, from `IdleBlockKeepsEverything` on. Each statement says the whole state after the operation, so its frame too:
every element not named is as the capture part leaves it. -/

/-- 43_host_commands.md R282, R289: NOP and the writes to read-only and reserved words change nothing; IGN is not set. -/
def Obligations.NopAndReadOnlyWritesDoNothing : Prop :=
  ∀ s : State, s.hostNow.rst = false →
    exec .nop s = .next (s.nextCycle s.quietBlock none) ∧
    (∀ word, exec (.wrRo10to1C word) s = .next (s.nextCycle s.quietBlock none)) ∧
    (∀ word, exec (.wrRo20to3C word) s = .next (s.nextCycle s.quietBlock none))

/-- 43_host_commands.md R283: START on an IDLE block begins a read, and on a busy one, in the very cycle that ends the read
too, is dropped with IGN. That `w` is written to 0 is R283's pseudocode, which the model follows against R33 (log 20). -/
def Obligations.StartBeginsAReadOrIsDropped : Prop :=
  ∀ s : State, s.hostNow.rst = false →
    (s.block.st = .idle → exec .start s = .next (s.nextCycle { s.block with
      st := .waitHigh, p := 0#8, w := 0#16, t := 0#16, fb := List.replicate s.block.fb.length 0#8, done := false,
      resCode := 0#3, resLvl := 0#4, resBase := 0#4, resAllzero := false, resGuard := false, levelQ := 0#15 } none)) ∧
    (s.block.st ≠ .idle → exec .start s = .next (s.nextCycle { s.quietBlock with ign := true } none))

/-- 43_host_commands.md R284: CLEAR_STATS, in every state, zeroes the counters; one that counts a failure of this very cycle
ends at 1. Nothing else changes. -/
def Obligations.ClearStatsZeroesTheCounters : Prop :=
  ∀ s : State, s.hostNow.rst = false →
    exec .clearStats s = .next (s.nextCycle { s.quietBlock with
      nrCnt := if s.block.busy ∧ s.quietBlock.st = .idle ∧ s.quietBlock.resCode = 2#3 then 1#32 else 0#32
      preCnt := if s.block.busy ∧ s.quietBlock.st = .idle ∧ s.quietBlock.resCode = 3#3 then 1#32 else 0#32
      ckCnt := if s.block.busy ∧ s.quietBlock.st = .idle ∧ s.quietBlock.resCode = 4#3 then 1#32 else 0#32 } none)

/-- 43_host_commands.md R285: a reserved command, whatever its code, sets IGN and nothing else. -/
def Obligations.ReservedCommandsSetIgnOnly : Prop :=
  ∀ (s : State) (cmd : BitVec 8), s.hostNow.rst = false →
    ∀ i ∈ [Instr.cmdReserved03, .cmdReserved04to07 cmd, .cmdReserved08to0F cmd, .cmdReserved10to1F cmd,
      .cmdReserved20to3F cmd, .cmdReserved40to7F cmd, .cmdReserved80toFF cmd],
      exec i s = .next (s.nextCycle { s.quietBlock with ign := true } none)

/-- 43_host_commands.md R286: WR CONFIG writes both fields on an IDLE block, and is dropped with IGN on a busy one. -/
def Obligations.ConfigWriteIsTakenOnlyWhenIdle : Prop :=
  ∀ (s : State) (deadline : Ticks) (cal : Bool), s.hostNow.rst = false →
    (s.block.st = .idle → exec (.wrConfig deadline cal) s =
      .next (s.nextCycle { s.block with cfgDeadline := deadline, cfgCal := cal } none)) ∧
    (s.block.st ≠ .idle → exec (.wrConfig deadline cal) s = .next (s.nextCycle { s.quietBlock with ign := true } none))

/-- 43_host_commands.md R287: WR THRESH writes the threshold on an IDLE block, and is dropped with IGN on a busy one. -/
def Obligations.ThreshWriteIsTakenOnlyWhenIdle : Prop :=
  ∀ (s : State) (thresh : Ticks), s.hostNow.rst = false →
    (s.block.st = .idle → exec (.wrThresh thresh) s = .next (s.nextCycle { s.block with cfgThresh := thresh } none)) ∧
    (s.block.st ≠ .idle → exec (.wrThresh thresh) s = .next (s.nextCycle { s.quietBlock with ign := true } none))

/-- 43_host_commands.md R288: WR STATUS with bit 2 set clears IGN, in every state; with bit 2 clear it changes nothing. -/
def Obligations.StatusWriteClearsIgnOnly : Prop :=
  ∀ s : State, s.hostNow.rst = false →
    exec (.wrStatus true) s = .next (s.nextCycle { s.quietBlock with ign := false } none) ∧
    exec (.wrStatus false) s = .next (s.nextCycle s.quietBlock none)

/-- 43_host_commands.md R281 with 10_state.md R44 to R48: the reads of the status, configuration and result words return
their fields of the start-of-cycle state, and change nothing. -/
def Obligations.ReadsReturnStatusConfigurationAndResult : Prop :=
  ∀ s : State, s.hostNow.rst = false → ∃ status config thresh result level : Word,
    exec .rdStatus s = .next (s.nextCycle s.quietBlock (some status)) ∧
    status.toNat = s.block.busy.toNat + 2 * s.block.done.toNat + 4 * s.block.ign.toNat + 16 * s.block.st.code.toNat +
      256 * s.block.p.toNat ∧
    exec .rdConfig s = .next (s.nextCycle s.quietBlock (some config)) ∧
    config.toNat = s.block.cfgDeadline.toNat + 2 ^ 16 * s.block.cfgCal.toNat ∧
    exec .rdThresh s = .next (s.nextCycle s.quietBlock (some thresh)) ∧ thresh.toNat = s.block.cfgThresh.toNat ∧
    exec .rdResult s = .next (s.nextCycle s.quietBlock (some result)) ∧
    result.toNat = s.block.resCode.toNat + 16 * s.block.resLvl.toNat + 256 * s.block.resBase.toNat +
      2 ^ 12 * s.block.resAllzero.toNat + 2 ^ 13 * s.block.resGuard.toNat ∧
    exec .rdLevel s = .next (s.nextCycle s.quietBlock (some level)) ∧ level.toNat = s.block.levelQ.toNat

/-- 43_host_commands.md R281 with 10_state.md R49 to R52: the reads of the counters, PARAM, CTRL, the reserved words and the
frame words (little-endian, 0 from FRAME_BYTES on), and change nothing. -/
def Obligations.ReadsReturnCountersParamAndFrame : Prop :=
  ∀ s : State, s.hostNow.rst = false →
    exec .rdCtrl s = .next (s.nextCycle s.quietBlock (some 0#32)) ∧
    exec .rdNrCnt s = .next (s.nextCycle s.quietBlock (some s.block.nrCnt)) ∧
    exec .rdPreCnt s = .next (s.nextCycle s.quietBlock (some s.block.preCnt)) ∧
    exec .rdCkCnt s = .next (s.nextCycle s.quietBlock (some s.block.ckCnt)) ∧
    exec .rdParam s = .next (s.nextCycle s.quietBlock (some 0x0000600C#32)) ∧
    exec .rdRsvd28 s = .next (s.nextCycle s.quietBlock (some 0#32)) ∧
    exec .rdRsvd2C s = .next (s.nextCycle s.quietBlock (some 0#32)) ∧
    ∃ v0 v1 v2 v3 : Word,
      exec .rdFrame0 s = .next (s.nextCycle s.quietBlock (some v0)) ∧
      exec .rdFrame1 s = .next (s.nextCycle s.quietBlock (some v1)) ∧
      exec .rdFrame2 s = .next (s.nextCycle s.quietBlock (some v2)) ∧
      exec .rdFrame3 s = .next (s.nextCycle s.quietBlock (some v3)) ∧
      (∀ j, j < 4 → v0.extractLsb' (8 * j) 8 = s.block.fb.getD j 0#8) ∧
      (∀ j, j < 4 → v1.extractLsb' (8 * j) 8 = s.block.fb.getD (4 + j) 0#8) ∧
      (∀ j, j < 4 → v2.extractLsb' (8 * j) 8 = s.block.fb.getD (8 + j) 0#8) ∧
      (∀ j, j < 4 → v3.extractLsb' (8 * j) 8 = s.block.fb.getD (12 + j) 0#8)

/-- What an IDLE block's host sees of a write, through the model's read of any byte address: only the words the write is for
change (20_memory.md R81, R82, R86). A CONFIG or THRESH write shows in its own word, with the reserved bits 0; a clear of
IGN or the command 0x03 shows in no word but STATUS, CLEAR_STATS in the counters alone, START in STATUS, RESULT, LEVEL and
FRAME0..3 alone. The STATUS word after the first two, and the other reserved commands, are in
`IgnWritesShowInStatusAlone`. -/
def Obligations.WindowOutsideTheTargetReadsAsBefore : Prop :=
  ∀ (s t : State) (addr : BitVec 6), s.hostNow.rst = false → s.block.st = .idle →
    (∀ deadline cal, exec (.wrConfig deadline cal) s = .next t →
      readReg Config.params t.block addr = if addrWord addr = 0x2#4 then BitVec.ofNat 32 (deadline.toNat + 2 ^ 16 * cal.toNat)
        else readReg Config.params s.block addr) ∧
    (∀ thresh, exec (.wrThresh thresh) s = .next t →
      readReg Config.params t.block addr = if addrWord addr = 0x3#4 then thresh.setWidth 32
        else readReg Config.params s.block addr) ∧
    (exec .cmdReserved03 s = .next t ∨ exec (.wrStatus true) s = .next t → addrWord addr ≠ 0x1#4 →
      readReg Config.params t.block addr = readReg Config.params s.block addr) ∧
    (exec .clearStats s = .next t → readReg Config.params t.block addr =
      if addrWord addr = 0x6#4 ∨ addrWord addr = 0x7#4 ∨ addrWord addr = 0x8#4 then 0#32
        else readReg Config.params s.block addr) ∧
    (exec .start s = .next t → readReg Config.params t.block addr =
      if addrWord addr = 0x1#4 then (if s.block.ign then 0x15#32 else 0x11#32)
      else if addrWord addr = 0x4#4 ∨ addrWord addr = 0x5#4 ∨ 0xC#4 ≤ addrWord addr then 0#32
      else readReg Config.params s.block addr)

/-! ## The whole machine -/

/-- The block's invariant holds at reset. -/
def Obligations.ResetMeetsTheInvariant : Prop := State.reset.Inv

/-- Every step keeps the block's invariant: RESULT.CODE stays at most 5 (30_encoding.md R104), `p` at most NPULSE and equal to
it in EVAL (R32, R159), LEVEL at most 25600 and 0 but for OK (R42), DONE in step with RESULT (R36), the unwritten bits of
the frame buffer 0 (R35), the waits bounded during a read (R33, R34). -/
def Obligations.EveryStepKeepsTheInvariant : Prop :=
  ∀ s t : State, s.Inv → step s = .next t → t.Inv

/-- 93_implementation_defined.md I14: in a state that meets the invariant the consistency check finds no reserved code. -/
def Obligations.ConsistencyCheckPasses : Prop :=
  ∀ s : State, s.Inv → consistencyCheck s.block = none

/-- 70_reset_and_hazards.md R367: START while BUSY has no effect but IGN; only START makes the block busy, and START after
BUSY = 0 is never dropped. -/
def Obligations.OnlyStartMakesTheBlockBusy : Prop :=
  ∀ s t : State, step s = .next t →
    (s.block.busy = false →
      (t.block.busy = true ↔ s.hostNow.rst = false ∧ ∃ tw, s.hostNow.access = some tw ∧ decode tw = .start)) ∧
    (s.block.busy = false → s.hostNow.rst = false → ∀ tw, s.hostNow.access = some tw → decode tw = .start →
      t.block.st = .waitHigh ∧ t.block.ign = s.block.ign) ∧
    (s.block.busy = true → s.hostNow.rst = false → ∀ tw, s.hostNow.access = some tw → decode tw = .start →
      t.block = { s.quietBlock with ign := true })

/-- 40_pulse_capture.md R163, 43_host_commands.md R286, R287, 60_exceptions.md R320: while a read is in flight no step but a
reset changes DEADLINE, CAL_PRESENT or THRESH, and the read leaves flight only by ending with one of the outcomes 1 to 5. -/
def Obligations.ReadInFlightKeepsItsConfiguration : Prop :=
  ∀ s t : State, step s = .next t → s.block.busy = true → s.hostNow.rst = false →
    t.block.cfgDeadline = s.block.cfgDeadline ∧ t.block.cfgCal = s.block.cfgCal ∧ t.block.cfgThresh = s.block.cfgThresh ∧
    (t.block.busy = true ∨ (t.block.done = true ∧ 1 ≤ t.block.resCode.toNat ∧ t.block.resCode.toNat ≤ 5))

/-- 20_memory.md R87: once a read has ended, RESULT, LEVEL, FRAME0..3 and the pulse count stay through every step that is
neither a START nor a reset, and the counters too unless the step is a CLEAR_STATS. -/
def Obligations.CompletedReadStaysReadable : Prop :=
  ∀ s t : State, step s = .next t → s.block.resultsValid = true → s.hostNow.rst = false →
    (∀ tw, s.hostNow.access = some tw → decode tw ≠ .start) →
    t.block.resultsValid = true ∧ resultWord t.block = resultWord s.block ∧ levelWord t.block = levelWord s.block ∧
    (∀ k, frameWord t.block k = frameWord s.block k) ∧ t.block.p = s.block.p ∧
    ((∀ tw, s.hostNow.access = some tw → decode tw ≠ .clearStats) →
      t.block.nrCnt = s.block.nrCnt ∧ t.block.preCnt = s.block.preCnt ∧ t.block.ckCnt = s.block.ckCnt)

/-- Two machines with the same block, a read in flight, and the same pins from the environment, whose hosts present any
transactions at all, capture and evaluate alike: "host timing cannot corrupt them" (70_reset_and_hazards.md R370). -/
def Obligations.HostCannotDisturbAReadInFlight : Prop :=
  ∀ s t s' t' : State, s.block = t.block → s.envNow = t.envNow → s.block.busy = true → s.hostNow.rst = false →
    t.hostNow.rst = false → step s = .next s' → step t = .next t' →
    s'.block.st = t'.block.st ∧ s'.block.p = t'.block.p ∧ s'.block.w = t'.block.w ∧ s'.block.t = t'.block.t ∧
    s'.block.fb = t'.block.fb ∧ s'.block.done = t'.block.done ∧ resultWord s'.block = resultWord t'.block ∧
    s'.block.levelQ = t'.block.levelQ

/-- 10_state.md R37: IGN is set by exactly the dropped writes and the reserved commands, cleared by exactly a write of 1 to
STATUS bit 2 or a reset, and otherwise kept. -/
def Obligations.IgnRecordsDroppedWrites : Prop :=
  ∀ s t : State, step s = .next t →
    (s.hostNow.rst = true → t.block.ign = false) ∧
    (s.hostNow.rst = false → s.hostNow.access = none → t.block.ign = s.block.ign) ∧
    (s.hostNow.rst = false → ∀ tw, s.hostNow.access = some tw → t.block.ign =
      match decode tw with
      | .start | .wrConfig _ _ | .wrThresh _ => s.block.ign || s.block.busy
      | .cmdReserved03 | .cmdReserved04to07 _ | .cmdReserved08to0F _ | .cmdReserved10to1F _ | .cmdReserved20to3F _
      | .cmdReserved40to7F _ | .cmdReserved80toFF _ => true
      | .wrStatus clearIgn => s.block.ign && !clearIgn
      | .nop | .clearStats | .wrRo10to1C _ | .wrRo20to3C _ | .rdCtrl | .rdStatus | .rdConfig | .rdThresh | .rdResult
      | .rdLevel | .rdNrCnt | .rdPreCnt | .rdCkCnt | .rdParam | .rdRsvd28 | .rdRsvd2C | .rdFrame0 | .rdFrame1
      | .rdFrame2 | .rdFrame3 => s.block.ign)

/-- 70_reset_and_hazards.md R365: in a state that meets the invariant, while BUSY = 1, RESULT reads NONE with every field 0
and LEVEL reads 0. -/
def Obligations.BusyBlockShowsNoResult : Prop :=
  ∀ s : State, s.Inv → s.block.busy = true → resultWord s.block = 0#32 ∧ levelWord s.block = 0#32

/-! ## The parameters of the environment -/

/-- 60_exceptions.md R331, 00_scope.md R5: at every legal F_CLK the timebase strobes once a microsecond, each strobe one
cycle wide with a low cycle after it; at a whole number `K` of cycles a microsecond it is strictly periodic with period `K`,
the premise of 40_pulse_capture.md R154. This hardware's F_CLK, whatever it is, is legal. In which cycle of its microsecond
the strobe falls is the model's choice (log 16). -/
def Obligations.TimebaseStrobesOncePerMicrosecond : Prop :=
  Config.params.LegalClock ∧
  (∀ (P : Params) (phase n : Nat), P.LegalClock →
    (List.range n).countP (tickAt P phase) + usElapsed P phase 0 = usElapsed P phase n ∧
    (tickAt P phase n = true → tickAt P phase (n + 1) = false)) ∧
  (∀ (P : Params) (phase K n : Nat), 2 ≤ K → P.fClkHz = K * 1000000 →
    tickAt P phase n = decide ((n + 1 + phase / 1000000) % K = 0))

/-- 40_pulse_capture.md R162 in clock cycles: with the timebase at F_CLK, a read ends within
`2 x NPULSE x max(cfg_deadline, 1)` microseconds of its START, counted in cycles of `clk`, and one cycle more. The placing of
the strobe is the model's choice (log 16). -/
def Obligations.EveryReadEndsInItsTimeAtTheClock : Prop :=
  ∀ (P : Params) (b : Block) (phase : Nat) (ins : List Inputs) (last : Inputs),
    b.st = .waitHigh → b.p = 0#8 → b.t = 0#16 → P.Legal → P.LegalClock → (∀ inp ∈ ins, inp.rst = false) → last.rst = false →
    Timebase P phase ins → 2 * P.npulse * b.waitLimit * P.fClkHz ≤ ins.length * 1000000 →
    ∃ pre, pre <+: (ins ++ [last]) ∧ (runPorts P b pre).st = .idle ∧ (runPorts P b pre).done = true ∧
      1 ≤ (runPorts P b pre).resCode.toNat ∧ (runPorts P b pre).resCode.toNat ≤ 5

/-- 70_reset_and_hazards.md R369, 40_pulse_capture.md R155: of a read started within SELECT_WINDOW_US, with a deadline longer
than the sensor's delay, the first low cycle begins the measurement of pulse 0; a sensor that leaves the line high until the
deadline's ticks have passed makes the read end in NO_RESPONSE at pulse 0; and a line already low in the first cycle of the
wait is measured as pulse 0 at once. What the line does outside the window is left free, as is whether the sensor answers;
that the delay is counted in ticks is the model's choice (log 19). -/
def Obligations.FirstPulseNeedsTheWindowAndTheDeadline : Prop :=
  ∀ (P : Params) (b : Block) (r : Selection) (ins : List Inputs) (next : Inputs),
    b.st = .waitHigh → b.p = 0#8 → b.t = 0#16 → (∀ inp ∈ ins, inp.rst = false) → next.rst = false →
    (r.inWindow P = true → r.BeforeAnswer P ins → r.deadlineCovers b = true → next.resp = false →
      (runPorts P b (ins ++ [next])).st = .measureLow ∧ (runPorts P b (ins ++ [next])).p = 0#8 ∧
        (runPorts P b (ins ++ [next])).w = 0#16) ∧
    (r.inWindow P = true → r.BeforeAnswer P ins → b.waitLimit ≤ tickCount ins →
      ∃ pre, pre <+: ins ∧ (runPorts P b pre).st = .idle ∧ (runPorts P b pre).done = true ∧
        (runPorts P b pre).resCode = OutcomeCode.noResponse.code ∧ (runPorts P b pre).p = 0#8) ∧
    (next.resp = false → (runPorts P b [next]).st = .measureLow ∧ (runPorts P b [next]).p = 0#8 ∧
      (runPorts P b [next]).w = 0#16)

/-- The STATUS word after each write that touches IGN, on an IDLE block, and every other word (20_memory.md R81, R82, R86,
43_host_commands.md R285, R288): every reserved command sets bit 2, WR STATUS clears it when it writes 1 there and changes no
word when it writes 0. -/
def Obligations.IgnWritesShowInStatusAlone : Prop :=
  ∀ (s t : State) (addr : BitVec 6), s.hostNow.rst = false → s.block.st = .idle →
    (∀ (cmd : BitVec 8), ∀ i ∈ [Instr.cmdReserved03, .cmdReserved04to07 cmd, .cmdReserved08to0F cmd, .cmdReserved10to1F cmd,
        .cmdReserved20to3F cmd, .cmdReserved40to7F cmd, .cmdReserved80toFF cmd], exec i s = .next t →
      readReg Config.params t.block addr = if addrWord addr = 0x1#4 then readReg Config.params s.block addr ||| 4#32
        else readReg Config.params s.block addr) ∧
    (exec (.wrStatus true) s = .next t → readReg Config.params t.block addr =
      if addrWord addr = 0x1#4 then readReg Config.params s.block addr &&& ~~~4#32
        else readReg Config.params s.block addr) ∧
    (exec (.wrStatus false) s = .next t → readReg Config.params t.block addr = readReg Config.params s.block addr)
end

