-- ==== Sys2Proof/Laws/Environment.lean ====
section
/-! SUPPORT. One lemma for each definition of the timebase and of the select window. -/

namespace Sys2Proof.Machine

/-- This hardware's parameters are legal (00_scope.md R5), whatever the platform's clock is. -/
theorem params_legal : Config.params.Legal ∧ Config.params.LegalClock :=
  ⟨by decide, Nat.le_add_right _ _⟩

/-- A cycle ends at most one microsecond, and ticks exactly when it ends one (60_exceptions.md R331). -/
theorem usElapsed_succ (P : Params) (phase n : Nat) (h : P.LegalClock) :
    usElapsed P phase (n + 1) = usElapsed P phase n + (tickAt P phase n).toNat := by
  have hF : 2000000 ≤ P.fClkHz := h
  have hle : usElapsed P phase n ≤ usElapsed P phase (n + 1) := Nat.div_le_div_right (by omega)
  have hlt : usElapsed P phase (n + 1) ≤ usElapsed P phase n + 1 := by
    unfold usElapsed
    rw [← Nat.add_div_right _ (by omega)]
    exact Nat.div_le_div_right (by omega)
  by_cases ht : usElapsed P phase n < usElapsed P phase (n + 1) <;> simp [tickAt, ht] <;> omega

@[simp] theorem Selection.inWindow_iff (P : Params) (r : Selection) :
    r.inWindow P = true ↔ r.sinceTrain ≤ P.selectWindowUs := by simp [Selection.inWindow]

@[simp] theorem Selection.deadlineCovers_iff (r : Selection) (b : Block) :
    r.deadlineCovers b = true ↔ ∃ d, r.sensorDelay = some d ∧ d < b.cfgDeadline.toNat := by
  unfold Selection.deadlineCovers
  cases r.sensorDelay <;> simp

end Sys2Proof.Machine
end

