-- ==== Sys2Proof/Laws/State.lean ====
section
/-! SUPPORT. One lemma per field per update of the machine's records, each true by `rfl`. -/

namespace Sys2Proof.Machine

/-! The state after a cycle. -/
@[simp] theorem State.nextCycle_block (s : State) (b : Block) (r : Option Word) : (s.nextCycle b r).block = b := rfl
@[simp] theorem State.nextCycle_hostPort (s : State) (b : Block) (r : Option Word) :
    (s.nextCycle b r).hostPort = s.hostPort.tail := rfl
@[simp] theorem State.nextCycle_envPort (s : State) (b : Block) (r : Option Word) :
    (s.nextCycle b r).envPort = s.envPort.tail := rfl
@[simp] theorem State.nextCycle_cycleNo (s : State) (b : Block) (r : Option Word) :
    (s.nextCycle b r).cycleNo = s.cycleNo + 1 := rfl
@[simp] theorem State.nextCycle_busRdata (s : State) (b : Block) (r : Option Word) :
    (s.nextCycle b r).busRdata = r := rfl

/-! The machine with a transaction presented. -/
@[simp] theorem State.withFetchWord_block (s : State) (nbits w : Nat) : (s.withFetchWord nbits w).block = s.block := rfl
@[simp] theorem State.withFetchWord_envPort (s : State) (nbits w : Nat) :
    (s.withFetchWord nbits w).envPort = s.envPort := rfl
@[simp] theorem State.withFetchWord_cycleNo (s : State) (nbits w : Nat) :
    (s.withFetchWord nbits w).cycleNo = s.cycleNo := rfl
@[simp] theorem State.withFetchWord_hostNow (s : State) (nbits w : Nat) :
    (s.withFetchWord nbits w).hostNow = { rst := false, access := some (BitVec.ofNat 39 (w % 2 ^ nbits)) } := rfl

/-! The block at reset (10_state.md R55). -/
@[simp] theorem Block.reset_st (P : Params) : (Block.reset P).st = .idle := rfl
@[simp] theorem Block.reset_p (P : Params) : (Block.reset P).p = 0#8 := rfl
@[simp] theorem Block.reset_w (P : Params) : (Block.reset P).w = 0#16 := rfl
@[simp] theorem Block.reset_t (P : Params) : (Block.reset P).t = 0#16 := rfl
@[simp] theorem Block.reset_fb (P : Params) : (Block.reset P).fb = List.replicate P.frameBytes 0#8 := rfl
@[simp] theorem Block.reset_done (P : Params) : (Block.reset P).done = false := rfl
@[simp] theorem Block.reset_ign (P : Params) : (Block.reset P).ign = false := rfl
@[simp] theorem Block.reset_cfgDeadline (P : Params) : (Block.reset P).cfgDeadline = 1000#16 := rfl
@[simp] theorem Block.reset_cfgCal (P : Params) : (Block.reset P).cfgCal = false := rfl
@[simp] theorem Block.reset_cfgThresh (P : Params) : (Block.reset P).cfgThresh = 26#16 := rfl
@[simp] theorem Block.reset_resCode (P : Params) : (Block.reset P).resCode = 0#3 := rfl
@[simp] theorem Block.reset_resLvl (P : Params) : (Block.reset P).resLvl = 0#4 := rfl
@[simp] theorem Block.reset_resBase (P : Params) : (Block.reset P).resBase = 0#4 := rfl
@[simp] theorem Block.reset_resAllzero (P : Params) : (Block.reset P).resAllzero = false := rfl
@[simp] theorem Block.reset_resGuard (P : Params) : (Block.reset P).resGuard = false := rfl
@[simp] theorem Block.reset_levelQ (P : Params) : (Block.reset P).levelQ = 0#15 := rfl
@[simp] theorem Block.reset_nrCnt (P : Params) : (Block.reset P).nrCnt = 0#32 := rfl
@[simp] theorem Block.reset_preCnt (P : Params) : (Block.reset P).preCnt = 0#32 := rfl
@[simp] theorem Block.reset_ckCnt (P : Params) : (Block.reset P).ckCnt = 0#32 := rfl

/-! IGN set, IGN cleared. -/
@[simp] theorem setIgn_st (n : Block) : (setIgn n).st = n.st := rfl
@[simp] theorem setIgn_p (n : Block) : (setIgn n).p = n.p := rfl
@[simp] theorem setIgn_w (n : Block) : (setIgn n).w = n.w := rfl
@[simp] theorem setIgn_t (n : Block) : (setIgn n).t = n.t := rfl
@[simp] theorem setIgn_fb (n : Block) : (setIgn n).fb = n.fb := rfl
@[simp] theorem setIgn_done (n : Block) : (setIgn n).done = n.done := rfl
@[simp] theorem setIgn_ign (n : Block) : (setIgn n).ign = true := rfl
@[simp] theorem setIgn_cfgDeadline (n : Block) : (setIgn n).cfgDeadline = n.cfgDeadline := rfl
@[simp] theorem setIgn_cfgCal (n : Block) : (setIgn n).cfgCal = n.cfgCal := rfl
@[simp] theorem setIgn_cfgThresh (n : Block) : (setIgn n).cfgThresh = n.cfgThresh := rfl
@[simp] theorem setIgn_resCode (n : Block) : (setIgn n).resCode = n.resCode := rfl
@[simp] theorem setIgn_resLvl (n : Block) : (setIgn n).resLvl = n.resLvl := rfl
@[simp] theorem setIgn_resBase (n : Block) : (setIgn n).resBase = n.resBase := rfl
@[simp] theorem setIgn_resAllzero (n : Block) : (setIgn n).resAllzero = n.resAllzero := rfl
@[simp] theorem setIgn_resGuard (n : Block) : (setIgn n).resGuard = n.resGuard := rfl
@[simp] theorem setIgn_levelQ (n : Block) : (setIgn n).levelQ = n.levelQ := rfl
@[simp] theorem setIgn_nrCnt (n : Block) : (setIgn n).nrCnt = n.nrCnt := rfl
@[simp] theorem setIgn_preCnt (n : Block) : (setIgn n).preCnt = n.preCnt := rfl
@[simp] theorem setIgn_ckCnt (n : Block) : (setIgn n).ckCnt = n.ckCnt := rfl

@[simp] theorem clearIgnIf_st (c : Bool) (n : Block) : (clearIgnIf c n).st = n.st := rfl
@[simp] theorem clearIgnIf_p (c : Bool) (n : Block) : (clearIgnIf c n).p = n.p := rfl
@[simp] theorem clearIgnIf_w (c : Bool) (n : Block) : (clearIgnIf c n).w = n.w := rfl
@[simp] theorem clearIgnIf_t (c : Bool) (n : Block) : (clearIgnIf c n).t = n.t := rfl
@[simp] theorem clearIgnIf_fb (c : Bool) (n : Block) : (clearIgnIf c n).fb = n.fb := rfl
@[simp] theorem clearIgnIf_done (c : Bool) (n : Block) : (clearIgnIf c n).done = n.done := rfl
@[simp] theorem clearIgnIf_ign (c : Bool) (n : Block) : (clearIgnIf c n).ign = if c then false else n.ign := rfl
@[simp] theorem clearIgnIf_cfgDeadline (c : Bool) (n : Block) : (clearIgnIf c n).cfgDeadline = n.cfgDeadline := rfl
@[simp] theorem clearIgnIf_cfgCal (c : Bool) (n : Block) : (clearIgnIf c n).cfgCal = n.cfgCal := rfl
@[simp] theorem clearIgnIf_cfgThresh (c : Bool) (n : Block) : (clearIgnIf c n).cfgThresh = n.cfgThresh := rfl
@[simp] theorem clearIgnIf_resCode (c : Bool) (n : Block) : (clearIgnIf c n).resCode = n.resCode := rfl
@[simp] theorem clearIgnIf_resLvl (c : Bool) (n : Block) : (clearIgnIf c n).resLvl = n.resLvl := rfl
@[simp] theorem clearIgnIf_resBase (c : Bool) (n : Block) : (clearIgnIf c n).resBase = n.resBase := rfl
@[simp] theorem clearIgnIf_resAllzero (c : Bool) (n : Block) : (clearIgnIf c n).resAllzero = n.resAllzero := rfl
@[simp] theorem clearIgnIf_resGuard (c : Bool) (n : Block) : (clearIgnIf c n).resGuard = n.resGuard := rfl
@[simp] theorem clearIgnIf_levelQ (c : Bool) (n : Block) : (clearIgnIf c n).levelQ = n.levelQ := rfl
@[simp] theorem clearIgnIf_nrCnt (c : Bool) (n : Block) : (clearIgnIf c n).nrCnt = n.nrCnt := rfl
@[simp] theorem clearIgnIf_preCnt (c : Bool) (n : Block) : (clearIgnIf c n).preCnt = n.preCnt := rfl
@[simp] theorem clearIgnIf_ckCnt (c : Bool) (n : Block) : (clearIgnIf c n).ckCnt = n.ckCnt := rfl

/-! The counters at the end of a cycle. -/
@[simp] theorem commitCounters_st (clr : Bool) (s n : Block) (inc : Incs) : (commitCounters clr s n inc).st = n.st := rfl
@[simp] theorem commitCounters_p (clr : Bool) (s n : Block) (inc : Incs) : (commitCounters clr s n inc).p = n.p := rfl
@[simp] theorem commitCounters_w (clr : Bool) (s n : Block) (inc : Incs) : (commitCounters clr s n inc).w = n.w := rfl
@[simp] theorem commitCounters_t (clr : Bool) (s n : Block) (inc : Incs) : (commitCounters clr s n inc).t = n.t := rfl
@[simp] theorem commitCounters_fb (clr : Bool) (s n : Block) (inc : Incs) : (commitCounters clr s n inc).fb = n.fb := rfl
@[simp] theorem commitCounters_done (clr : Bool) (s n : Block) (inc : Incs) : (commitCounters clr s n inc).done = n.done := rfl
@[simp] theorem commitCounters_ign (clr : Bool) (s n : Block) (inc : Incs) : (commitCounters clr s n inc).ign = n.ign := rfl
@[simp] theorem commitCounters_cfgDeadline (clr : Bool) (s n : Block) (inc : Incs) : (commitCounters clr s n inc).cfgDeadline = n.cfgDeadline := rfl
@[simp] theorem commitCounters_cfgCal (clr : Bool) (s n : Block) (inc : Incs) : (commitCounters clr s n inc).cfgCal = n.cfgCal := rfl
@[simp] theorem commitCounters_cfgThresh (clr : Bool) (s n : Block) (inc : Incs) : (commitCounters clr s n inc).cfgThresh = n.cfgThresh := rfl
@[simp] theorem commitCounters_resCode (clr : Bool) (s n : Block) (inc : Incs) : (commitCounters clr s n inc).resCode = n.resCode := rfl
@[simp] theorem commitCounters_resLvl (clr : Bool) (s n : Block) (inc : Incs) : (commitCounters clr s n inc).resLvl = n.resLvl := rfl
@[simp] theorem commitCounters_resBase (clr : Bool) (s n : Block) (inc : Incs) : (commitCounters clr s n inc).resBase = n.resBase := rfl
@[simp] theorem commitCounters_resAllzero (clr : Bool) (s n : Block) (inc : Incs) : (commitCounters clr s n inc).resAllzero = n.resAllzero := rfl
@[simp] theorem commitCounters_resGuard (clr : Bool) (s n : Block) (inc : Incs) : (commitCounters clr s n inc).resGuard = n.resGuard := rfl
@[simp] theorem commitCounters_levelQ (clr : Bool) (s n : Block) (inc : Incs) : (commitCounters clr s n inc).levelQ = n.levelQ := rfl
@[simp] theorem commitCounters_nrCnt (clr : Bool) (s n : Block) (inc : Incs) : (commitCounters clr s n inc).nrCnt = counterNext clr s.nrCnt inc.nr := rfl
@[simp] theorem commitCounters_preCnt (clr : Bool) (s n : Block) (inc : Incs) : (commitCounters clr s n inc).preCnt = counterNext clr s.preCnt inc.pre := rfl
@[simp] theorem commitCounters_ckCnt (clr : Bool) (s n : Block) (inc : Incs) : (commitCounters clr s n inc).ckCnt = counterNext clr s.ckCnt inc.ck := rfl

/-! A read begun. -/
@[simp] theorem beginRead_st (n : Block) : (beginRead n).st = .waitHigh := rfl
@[simp] theorem beginRead_p (n : Block) : (beginRead n).p = 0#8 := rfl
@[simp] theorem beginRead_w (n : Block) : (beginRead n).w = 0#16 := rfl
@[simp] theorem beginRead_t (n : Block) : (beginRead n).t = 0#16 := rfl
@[simp] theorem beginRead_fb (n : Block) : (beginRead n).fb = n.fb.map (fun _ => 0#8) := rfl
@[simp] theorem beginRead_done (n : Block) : (beginRead n).done = false := rfl
@[simp] theorem beginRead_ign (n : Block) : (beginRead n).ign = n.ign := rfl
@[simp] theorem beginRead_cfgDeadline (n : Block) : (beginRead n).cfgDeadline = n.cfgDeadline := rfl
@[simp] theorem beginRead_cfgCal (n : Block) : (beginRead n).cfgCal = n.cfgCal := rfl
@[simp] theorem beginRead_cfgThresh (n : Block) : (beginRead n).cfgThresh = n.cfgThresh := rfl
@[simp] theorem beginRead_resCode (n : Block) : (beginRead n).resCode = 0#3 := rfl
@[simp] theorem beginRead_resLvl (n : Block) : (beginRead n).resLvl = 0#4 := rfl
@[simp] theorem beginRead_resBase (n : Block) : (beginRead n).resBase = 0#4 := rfl
@[simp] theorem beginRead_resAllzero (n : Block) : (beginRead n).resAllzero = false := rfl
@[simp] theorem beginRead_resGuard (n : Block) : (beginRead n).resGuard = false := rfl
@[simp] theorem beginRead_levelQ (n : Block) : (beginRead n).levelQ = 0#15 := rfl
@[simp] theorem beginRead_nrCnt (n : Block) : (beginRead n).nrCnt = n.nrCnt := rfl
@[simp] theorem beginRead_preCnt (n : Block) : (beginRead n).preCnt = n.preCnt := rfl
@[simp] theorem beginRead_ckCnt (n : Block) : (beginRead n).ckCnt = n.ckCnt := rfl

/-! A read ended with an outcome. -/
@[simp] theorem finish_st (code : OutcomeCode) (L : Rat) (lvl base : Nat) (az g : Bool) (n : Block) : (finish code L lvl base az g n).st = .idle := rfl
@[simp] theorem finish_p (code : OutcomeCode) (L : Rat) (lvl base : Nat) (az g : Bool) (n : Block) : (finish code L lvl base az g n).p = n.p := rfl
@[simp] theorem finish_w (code : OutcomeCode) (L : Rat) (lvl base : Nat) (az g : Bool) (n : Block) : (finish code L lvl base az g n).w = n.w := rfl
@[simp] theorem finish_t (code : OutcomeCode) (L : Rat) (lvl base : Nat) (az g : Bool) (n : Block) : (finish code L lvl base az g n).t = n.t := rfl
@[simp] theorem finish_fb (code : OutcomeCode) (L : Rat) (lvl base : Nat) (az g : Bool) (n : Block) : (finish code L lvl base az g n).fb = n.fb := rfl
@[simp] theorem finish_done (code : OutcomeCode) (L : Rat) (lvl base : Nat) (az g : Bool) (n : Block) : (finish code L lvl base az g n).done = true := rfl
@[simp] theorem finish_ign (code : OutcomeCode) (L : Rat) (lvl base : Nat) (az g : Bool) (n : Block) : (finish code L lvl base az g n).ign = n.ign := rfl
@[simp] theorem finish_cfgDeadline (code : OutcomeCode) (L : Rat) (lvl base : Nat) (az g : Bool) (n : Block) : (finish code L lvl base az g n).cfgDeadline = n.cfgDeadline := rfl
@[simp] theorem finish_cfgCal (code : OutcomeCode) (L : Rat) (lvl base : Nat) (az g : Bool) (n : Block) : (finish code L lvl base az g n).cfgCal = n.cfgCal := rfl
@[simp] theorem finish_cfgThresh (code : OutcomeCode) (L : Rat) (lvl base : Nat) (az g : Bool) (n : Block) : (finish code L lvl base az g n).cfgThresh = n.cfgThresh := rfl
@[simp] theorem finish_resCode (code : OutcomeCode) (L : Rat) (lvl base : Nat) (az g : Bool) (n : Block) : (finish code L lvl base az g n).resCode = code.code := rfl
@[simp] theorem finish_resLvl (code : OutcomeCode) (L : Rat) (lvl base : Nat) (az g : Bool) (n : Block) : (finish code L lvl base az g n).resLvl = if code = .ok then BitVec.ofNat 4 lvl else 0#4 := rfl
@[simp] theorem finish_resBase (code : OutcomeCode) (L : Rat) (lvl base : Nat) (az g : Bool) (n : Block) : (finish code L lvl base az g n).resBase = if code = .ok then BitVec.ofNat 4 base else 0#4 := rfl
@[simp] theorem finish_resAllzero (code : OutcomeCode) (L : Rat) (lvl base : Nat) (az g : Bool) (n : Block) : (finish code L lvl base az g n).resAllzero = if code = .ok then az else false := rfl
@[simp] theorem finish_resGuard (code : OutcomeCode) (L : Rat) (lvl base : Nat) (az g : Bool) (n : Block) : (finish code L lvl base az g n).resGuard = if code = .ok then g else false := rfl
@[simp] theorem finish_levelQ (code : OutcomeCode) (L : Rat) (lvl base : Nat) (az g : Bool) (n : Block) : (finish code L lvl base az g n).levelQ = if code = .ok then levelBits L else 0#15 := rfl
@[simp] theorem finish_nrCnt (code : OutcomeCode) (L : Rat) (lvl base : Nat) (az g : Bool) (n : Block) : (finish code L lvl base az g n).nrCnt = n.nrCnt := rfl
@[simp] theorem finish_preCnt (code : OutcomeCode) (L : Rat) (lvl base : Nat) (az g : Bool) (n : Block) : (finish code L lvl base az g n).preCnt = n.preCnt := rfl
@[simp] theorem finish_ckCnt (code : OutcomeCode) (L : Rat) (lvl base : Nat) (az g : Bool) (n : Block) : (finish code L lvl base az g n).ckCnt = n.ckCnt := rfl

/-! A pulse ended. -/
@[simp] theorem endPulse_st (P : Params) (n : Block) : (endPulse P n).st = if n.p.toNat + 1 = P.npulse then .eval else .waitHigh := rfl
@[simp] theorem endPulse_p (P : Params) (n : Block) : (endPulse P n).p = n.p + 1#8 := rfl
@[simp] theorem endPulse_w (P : Params) (n : Block) : (endPulse P n).w = n.w := rfl
@[simp] theorem endPulse_t (P : Params) (n : Block) : (endPulse P n).t = 0#16 := rfl
@[simp] theorem endPulse_fb (P : Params) (n : Block) : (endPulse P n).fb = placeBit n.fb n.p.toNat (classify n.w n.cfgThresh) := rfl
@[simp] theorem endPulse_done (P : Params) (n : Block) : (endPulse P n).done = n.done := rfl
@[simp] theorem endPulse_ign (P : Params) (n : Block) : (endPulse P n).ign = n.ign := rfl
@[simp] theorem endPulse_cfgDeadline (P : Params) (n : Block) : (endPulse P n).cfgDeadline = n.cfgDeadline := rfl
@[simp] theorem endPulse_cfgCal (P : Params) (n : Block) : (endPulse P n).cfgCal = n.cfgCal := rfl
@[simp] theorem endPulse_cfgThresh (P : Params) (n : Block) : (endPulse P n).cfgThresh = n.cfgThresh := rfl
@[simp] theorem endPulse_resCode (P : Params) (n : Block) : (endPulse P n).resCode = n.resCode := rfl
@[simp] theorem endPulse_resLvl (P : Params) (n : Block) : (endPulse P n).resLvl = n.resLvl := rfl
@[simp] theorem endPulse_resBase (P : Params) (n : Block) : (endPulse P n).resBase = n.resBase := rfl
@[simp] theorem endPulse_resAllzero (P : Params) (n : Block) : (endPulse P n).resAllzero = n.resAllzero := rfl
@[simp] theorem endPulse_resGuard (P : Params) (n : Block) : (endPulse P n).resGuard = n.resGuard := rfl
@[simp] theorem endPulse_levelQ (P : Params) (n : Block) : (endPulse P n).levelQ = n.levelQ := rfl
@[simp] theorem endPulse_nrCnt (P : Params) (n : Block) : (endPulse P n).nrCnt = n.nrCnt := rfl
@[simp] theorem endPulse_preCnt (P : Params) (n : Block) : (endPulse P n).preCnt = n.preCnt := rfl
@[simp] theorem endPulse_ckCnt (P : Params) (n : Block) : (endPulse P n).ckCnt = n.ckCnt := rfl

end Sys2Proof.Machine
end

