-- ==== Sys2Proof/Laws/Ops.lean ====
section
/-! SUPPORT. One lemma for each shared operation, saying once all that it can do; later proofs cite these. -/

namespace Sys2Proof.Machine

/-! ## The counters -/

theorem sat32_toNat (x : Nat) : (sat32 x).toNat = min x (2 ^ 32 - 1) := by
  rw [sat32, BitVec.toNat_ofNat]
  omega

/-- A counter at the end of a cycle, as a number (40_pulse_capture.md R150). -/
theorem counterNext_toNat (clr : Bool) (c : BitVec 32) (inc : Bool) :
    (counterNext clr c inc).toNat = min ((if clr then 0 else c.toNat) + inc.toNat) (2 ^ 32 - 1) := sat32_toNat _

/-- A counter that is neither cleared nor incremented keeps its value. -/
@[simp] theorem counterNext_keep (c : BitVec 32) : counterNext false c false = c := by
  apply BitVec.eq_of_toNat_eq
  rw [counterNext_toNat]
  have := c.isLt
  simp; omega

@[simp] theorem counterNext_clear (c : BitVec 32) (inc : Bool) :
    counterNext true c inc = if inc then 1#32 else 0#32 := by
  cases inc <;> rfl

/-- Without increments and without a clear, a cycle that leaves the counters alone keeps them. -/
@[simp] theorem commitCounters_keep (s : Block) : commitCounters false s s Incs.zero = s := by
  simp [commitCounters, Incs.zero]

/-! ## The frame buffer -/

theorem getLsbD_replaceBit (v : Byte) (k j : Nat) (bit : Bool) (hk : k < 8) (hj : j < 8) :
    (replaceBit v k bit).getLsbD j = if j = k then bit else v.getLsbD j := by
  have h1 : (1#8 <<< k).getLsbD j = decide (j = k) := by
    interval_cases k <;> interval_cases j <;> rfl
  cases bit
  · simp only [replaceBit, Bool.false_eq_true, if_false, BitVec.getLsbD_and, BitVec.getLsbD_not, h1]
    by_cases h : j = k <;> simp [h, hj]
  · simp only [replaceBit, if_true, BitVec.getLsbD_or, h1]
    by_cases h : j = k <;> simp [h]

@[simp] theorem length_placeBit (fb : List Byte) (p : Nat) (bit : Bool) : (placeBit fb p bit).length = fb.length := by
  simp [placeBit]

/-- The byte of pulse `p` has its bit replaced; every other byte is as before. -/
theorem getD_placeBit (fb : List Byte) (p i : Nat) (bit : Bool) :
    (placeBit fb p bit).getD i 0#8 =
      if i = p / 8 ∧ i < fb.length then replaceBit (fb.getD i 0#8) (7 - p % 8) bit else fb.getD i 0#8 := by
  simp only [placeBit, List.getD_eq_getElem?_getD, List.getElem?_modify]
  by_cases hi : i < fb.length
  · by_cases h : p / 8 = i
    · subst h; simp [hi]
    · simp [h, Ne.symm h, hi]
  · simp [hi]

/-- Placing pulse `p`'s bit changes the bit of pulse `p` and no other (40_pulse_capture.md R157). -/
theorem frameBit_placeBit (fb : List Byte) (p q : Nat) (bit : Bool) (hp : p < 8 * fb.length) :
    frameBit (placeBit fb p bit) q = if q = p then bit else frameBit fb q := by
  unfold frameBit
  rw [getD_placeBit]
  have hpb : p / 8 < fb.length := by omega
  by_cases h : q / 8 = p / 8
  · rw [if_pos ⟨h, h ▸ hpb⟩, getLsbD_replaceBit _ _ _ _ (by omega) (by omega)]
    by_cases hq : q = p
    · simp [hq]
    · rw [if_neg hq, if_neg (by omega)]
  · rw [if_neg (by tauto), if_neg (by rintro rfl; exact h rfl)]

/-! ## The capture part of a cycle -/

/-- All that the capture part can do (40_pulse_capture.md R150 to R153, 41_frame_validation.md R204, R205): nothing; the
first low sample; one more tick of a wait; the end of a pulse; or the end of the read, by a timeout or in EVAL. -/
theorem capture_cases (P : Params) (s : Block) (e : EnvPins) :
    capture P s e = (s, Incs.zero) ∧ s.st ≠ .eval ∨
    s.st = .waitHigh ∧ e.resp = false ∧ capture P s e = ({ s with st := .measureLow, w := 0#16 }, Incs.zero) ∨
    s.st = .waitHigh ∧ e.resp = true ∧ e.usTick = true ∧ s.t.toNat + 1 < s.cfgDeadline.toNat ∧
      capture P s e = ({ s with t := s.t + 1#16 }, Incs.zero) ∨
    s.st = .measureLow ∧ e.resp = true ∧ capture P s e = (endPulse P s, Incs.zero) ∨
    s.st = .measureLow ∧ e.resp = false ∧ e.usTick = true ∧ s.w.toNat + 1 < s.cfgDeadline.toNat ∧
      capture P s e = ({ s with w := s.w + 1#16 }, Incs.zero) ∨
    (s.st = .waitHigh ∧ e.resp = true ∧ s.cfgDeadline.toNat ≤ s.t.toNat + 1 ∨
        s.st = .measureLow ∧ e.resp = false ∧ s.cfgDeadline.toNat ≤ s.w.toNat + 1) ∧ e.usTick = true ∧
      capture P s e = (finishFailed .noResponse s, OutcomeCode.noResponse.incs) ∨
    s.st = .eval ∧ capture P s e = evalStep P s := by
  have hb : ∀ b : Bool, b = false ∨ b = true := by decide
  cases hst : s.st with
  | idle => left; simp [capture, hst]
  | waitHigh =>
    rcases hb e.resp with hr | hr
    · simp [capture, hst, waitHighStep, hr]
    · rcases hb e.usTick with ht | ht
      · simp [capture, hst, waitHighStep, hr, ht]
      · by_cases hd : s.cfgDeadline.toNat ≤ s.t.toNat + 1
        · simp [capture, hst, waitHighStep, hr, ht, deadlineReached, hd]
        · simp [capture, hst, waitHighStep, hr, ht, deadlineReached, hd, Nat.not_le.mp hd]
  | measureLow =>
    rcases hb e.resp with hr | hr
    · rcases hb e.usTick with ht | ht
      · simp [capture, hst, measureLowStep, hr, ht]
      · by_cases hd : s.cfgDeadline.toNat ≤ s.w.toNat + 1
        · simp [capture, hst, measureLowStep, hr, ht, deadlineReached, hd]
        · simp [capture, hst, measureLowStep, hr, ht, deadlineReached, hd, Nat.not_le.mp hd]
    · simp [capture, hst, measureLowStep, hr]
  | eval => simp [capture, hst]

/-- All that EVAL can do (41_frame_validation.md R204): it ends the read, with an outcome other than NONE. -/
theorem evalStep_cases (P : Params) (s : Block) :
    (∃ code, code ≠ .none ∧ code ≠ .ok ∧ evalStep P s = (finishFailed code s, code.incs)) ∨
    ∃ payload L lvl base az g, validate P s.fb = .ok payload ∧
      estimate P.avgNorm payload s.cfgCal = .level L lvl base az g ∧
      evalStep P s = (finish .ok L lvl base az g s, OutcomeCode.ok.incs) := by
  unfold evalStep
  cases hv : validate P s.fb with
  | noResponse => exact .inl ⟨.noResponse, by decide, by decide, rfl⟩
  | preambleError => exact .inl ⟨.preambleError, by decide, by decide, rfl⟩
  | checksumError => exact .inl ⟨.checksumError, by decide, by decide, rfl⟩
  | ok payload =>
    dsimp only
    cases he : estimate P.avgNorm payload s.cfgCal with
    | unsupported => exact .inl ⟨.calUnsupported, by decide, by decide, rfl⟩
    | level L lvl base az g => exact .inr ⟨payload, L, lvl, base, az, g, rfl, he, rfl⟩

/-! ## The host's part of a cycle -/

/-- The sixteen words of the window (20_memory.md R81). -/
theorem word_cases (word : BitVec 4) :
    word = 0x0#4 ∨ word = 0x1#4 ∨ word = 0x2#4 ∨ word = 0x3#4 ∨ word = 0x4#4 ∨ word = 0x5#4 ∨ word = 0x6#4 ∨
    word = 0x7#4 ∨ word = 0x8#4 ∨ word = 0x9#4 ∨ word = 0xA#4 ∨ word = 0xB#4 ∨ word = 0xC#4 ∨ word = 0xD#4 ∨
    word = 0xE#4 ∨ word = 0xF#4 := by
  revert word; decide

/-- All that a host write can do to the block (43_host_commands.md R290), START apart from the rest. -/
theorem hostWrite_cases (s n : Block) (addr : BitVec 6) (wdata : Word) :
    (addrWord addr = 0x0#4 ∧ wdata.extractLsb' 0 8 = 0x01#8) ∧ (hostWrite s n addr wdata).1 = hostStart s n ∨
    ¬ (addrWord addr = 0x0#4 ∧ wdata.extractLsb' 0 8 = 0x01#8) ∧
      ((hostWrite s n addr wdata).1 = n ∨ (hostWrite s n addr wdata).1 = setIgn n ∨
        (∃ c, (hostWrite s n addr wdata).1 = clearIgnIf c n) ∨
        (∃ d c, (hostWrite s n addr wdata).1 = hostConfig d c s n) ∨
        ∃ d, (hostWrite s n addr wdata).1 = hostThresh d s n) := by
  unfold hostWrite
  generalize addrWord addr = word
  rcases word_cases word with rfl | rfl | rfl | rfl | rfl | rfl | rfl | rfl | rfl | rfl | rfl | rfl | rfl | rfl | rfl | rfl
  · dsimp only
    split_ifs with h0 h1 h2 <;> simp [*]
  · exact .inr ⟨fun h => absurd h.1 (by decide), .inr (.inr (.inl ⟨_, rfl⟩))⟩
  · exact .inr ⟨fun h => absurd h.1 (by decide), .inr (.inr (.inr (.inl ⟨_, _, rfl⟩)))⟩
  · exact .inr ⟨fun h => absurd h.1 (by decide), .inr (.inr (.inr (.inr ⟨_, rfl⟩)))⟩
  all_goals exact .inr ⟨fun h => absurd h.1 (by decide), .inl rfl⟩

/-- The host's part of a cycle over the ports: what it makes of the captured block `n`. -/
def hostPart (s : Block) (inp : Inputs) (n : Block) : Block :=
  if inp.busEn && inp.busWe then (hostWrite s n inp.busAddr inp.busWdata).1 else n

/-- A host write clears the counters exactly when it is CLEAR_STATS. -/
theorem hostWrite_clears (s n : Block) (addr : BitVec 6) (wdata : Word) :
    (hostWrite s n addr wdata).2 = (addrWord addr == 0x0#4 && wdata.extractLsb' 0 8 == 0x02#8) := by
  unfold hostWrite
  generalize addrWord addr = word
  rcases word_cases word with rfl | rfl | rfl | rfl | rfl | rfl | rfl | rfl | rfl | rfl | rfl | rfl | rfl | rfl | rfl | rfl
  · dsimp only
    split_ifs <;> simp_all
  all_goals rfl

/-- A cycle without reset is the capture part, the host's part and the counters (40_pulse_capture.md R150). -/
theorem cyclePorts_noReset (P : Params) (s : Block) (inp : Inputs) (h : inp.rst = false) :
    cyclePorts P s inp = commitCounters inp.clearNow s
      (hostPart s inp (capture P s { resp := inp.resp, usTick := inp.usTick }).1)
      (capture P s { resp := inp.resp, usTick := inp.usTick }).2 := by
  simp only [cyclePorts, h, Bool.false_eq_true, if_false, hostPart, Inputs.clearNow]
  cases inp.busEn <;> cases inp.busWe <;> simp [hostWrite_clears]

/-- A cycle with reset leaves the reset values (70_reset_and_hazards.md R360). -/
theorem cyclePorts_reset (P : Params) (s : Block) (inp : Inputs) (h : inp.rst = true) :
    cyclePorts P s inp = Block.reset P := by
  simp [cyclePorts, h]

/-- All that the host's part of a cycle can do. -/
theorem hostPart_cases (s : Block) (inp : Inputs) (n : Block) (h : inp.rst = false) :
    hostPart s inp n = n ∧ inp.startNow = false ∨
    inp.startNow = true ∧ hostPart s inp n = hostStart s n ∨
    inp.startNow = false ∧ (hostPart s inp n = setIgn n ∨ (∃ c, hostPart s inp n = clearIgnIf c n) ∨
      (∃ d c, hostPart s inp n = hostConfig d c s n) ∨ ∃ d, hostPart s inp n = hostThresh d s n) := by
  by_cases hb : (inp.busEn && inp.busWe) = true
  · have hp : hostPart s inp n = (hostWrite s n inp.busAddr inp.busWdata).1 := by simp [hostPart, hb]
    have hn : inp.startNow = true ↔ addrWord inp.busAddr = 0x0#4 ∧ inp.busWdata.extractLsb' 0 8 = 0x01#8 := by
      simp_all [Inputs.startNow]
    rw [hp, ← Bool.not_eq_true, hn]
    rcases hostWrite_cases s n inp.busAddr inp.busWdata with h1 | ⟨h1, h2 | h2⟩
    · exact .inr (.inl h1)
    · exact .inl ⟨h2, h1⟩
    · exact .inr (.inr ⟨h1, h2⟩)
  · left
    simp_all [hostPart, Inputs.startNow]

/-- While a read is in flight, the host can change IGN and nothing else (70_reset_and_hazards.md R366, R367, R370). -/
theorem hostPart_busy (s : Block) (inp : Inputs) (n : Block) (h : inp.rst = false) (hs : s.st ≠ .idle) :
    ∃ ign, hostPart s inp n = { n with ign := ign } := by
  rcases hostPart_cases s inp n h with ⟨e, -⟩ | ⟨-, e⟩ | ⟨-, e | ⟨c, e⟩ | ⟨d, c, e⟩ | ⟨d, e⟩⟩ <;> rw [e]
  · exact ⟨n.ign, rfl⟩
  · exact ⟨true, by simp [hostStart, hs, setIgn]⟩
  · exact ⟨true, rfl⟩
  · exact ⟨_, rfl⟩
  · exact ⟨true, by simp [hostConfig, hs, setIgn]⟩
  · exact ⟨true, by simp [hostThresh, hs, setIgn]⟩

/-! ## The machine's cycle -/

/-- A cycle of the machine without reset (40_pulse_capture.md R150). -/
theorem busCycle_noReset (host : Block → Block → Block) (clr : Bool) (rdata : Option Word) (s : State)
    (h : s.hostNow.rst = false) :
    busCycle host clr rdata s = .next (s.nextCycle (s.block.cycle Config.params host clr s.envNow) rdata) := by
  simp [busCycle, h]

/-- The block after a cycle without reset and without access is the one of `busCycle` with nothing to write. -/
theorem quietBlock_eq (s : State) : s.quietBlock = s.block.cycle Config.params hostSkip false s.envNow := by
  simp [State.quietBlock, cyclePorts, Block.cycle, State.inputsNow, hostSkip]

end Sys2Proof.Machine
end

