-- ==== Sys2Proof/Tests/Slice0.lean ====
section
/-! SUPPORT. Tests: words and values written out from spec/95_test_vectors.md and the opcode table, and one witness for
each statement that has hypotheses (the theorems named witness_…). -/

namespace Sys2Proof.Tests

open Sys2Proof Sys2Proof.Machine

/-! ## WellFormed: an ill-formed term for each check -/

theorem test_illFormed_reservedCommands :
    ¬ (Instr.cmdReserved04to07 0x03#8).WellFormed ∧ ¬ (Instr.cmdReserved04to07 0x08#8).WellFormed ∧
    ¬ (Instr.cmdReserved08to0F 0x07#8).WellFormed ∧ ¬ (Instr.cmdReserved08to0F 0x10#8).WellFormed ∧
    ¬ (Instr.cmdReserved10to1F 0x0F#8).WellFormed ∧ ¬ (Instr.cmdReserved10to1F 0x20#8).WellFormed ∧
    ¬ (Instr.cmdReserved20to3F 0x1F#8).WellFormed ∧ ¬ (Instr.cmdReserved20to3F 0x40#8).WellFormed ∧
    ¬ (Instr.cmdReserved40to7F 0x3F#8).WellFormed ∧ ¬ (Instr.cmdReserved40to7F 0x80#8).WellFormed ∧
    ¬ (Instr.cmdReserved80toFF 0x7F#8).WellFormed := by decide

theorem test_illFormed_readOnlyWords :
    ¬ (Instr.wrRo10to1C 0x3#4).WellFormed ∧ ¬ (Instr.wrRo10to1C 0x8#4).WellFormed ∧
    ¬ (Instr.wrRo20to3C 0x7#4).WellFormed := by decide

/-! ## Decoding: words written out from 30_encoding.md R100, R103 and 95_test_vectors.md 3.8 and 4 -/

/-- `we = 1`, `addr = 000000`, the command code in `wdata[7:0]`. -/
theorem test_decode_commands :
    decode 0b1_000000_00000000000000000000000000000000#39 = .nop ∧
    decode 0b1_000000_00000000000000000000000000000001#39 = .start ∧
    decode 0b1_000000_00000000000000000000000000000010#39 = .clearStats ∧
    decode 0b1_000000_00000000000000000000000000000011#39 = .cmdReserved03 ∧
    decode 0b1_000000_00000000000000000000000000000110#39 = .cmdReserved04to07 0x06#8 ∧
    decode 0b1_000000_00000000000000000000000000001101#39 = .cmdReserved08to0F 0x0D#8 ∧
    decode 0b1_000000_00000000000000000000000000010010#39 = .cmdReserved10to1F 0x12#8 ∧
    decode 0b1_000000_00000000000000000000000000100100#39 = .cmdReserved20to3F 0x24#8 ∧
    decode 0b1_000000_00000000000000000000000001011000#39 = .cmdReserved40to7F 0x58#8 ∧
    decode 0b1_000000_00000000000000000000000011111111#39 = .cmdReserved80toFF 0xFF#8 := by decide

/-- The bits 31:8 of a command and `addr[1:0]` are ignored. -/
theorem test_decode_ignoredBits :
    decode 0x40FFFFFF00#39 = .nop ∧ decode 0x4300000001#39 = .start ∧ decode 0x0E00000000#39 = .rdThresh ∧
    decode 0x04FFFFFFFF#39 = .rdStatus := by decide

theorem test_decode_writes :
    decode 0x4400000004#39 = .wrStatus true ∧ decode 0x44FFFFFFFB#39 = .wrStatus false ∧
    decode 0x48000103E8#39 = .wrConfig 0x03E8#16 true ∧ decode 0x4800000064#39 = .wrConfig 0x0064#16 false ∧
    decode 0x4C00120020#39 = .wrThresh 0x0020#16 ∧
    decode 0x5000000000#39 = .wrRo10to1C 0x4#4 ∧ decode 0x5800000000#39 = .wrRo10to1C 0x6#4 ∧
    decode 0x6000000000#39 = .wrRo20to3C 0x8#4 ∧ decode 0x7012345678#39 = .wrRo20to3C 0xC#4 ∧
    decode 0x7C00000000#39 = .wrRo20to3C 0xF#4 := by decide

theorem test_decode_reads :
    decode 0x0000000000#39 = .rdCtrl ∧ decode 0x0400000000#39 = .rdStatus ∧ decode 0x0800000000#39 = .rdConfig ∧
    decode 0x0C00000000#39 = .rdThresh ∧ decode 0x1000000000#39 = .rdResult ∧ decode 0x1400000000#39 = .rdLevel ∧
    decode 0x1800000000#39 = .rdNrCnt ∧ decode 0x1C00000000#39 = .rdPreCnt ∧ decode 0x2000000000#39 = .rdCkCnt ∧
    decode 0x2400000000#39 = .rdParam ∧ decode 0x2800000000#39 = .rdRsvd28 ∧ decode 0x2C00000000#39 = .rdRsvd2C ∧
    decode 0x3000000000#39 = .rdFrame0 ∧ decode 0x3400000000#39 = .rdFrame1 ∧ decode 0x3800000000#39 = .rdFrame2 ∧
    decode 0x3C00000000#39 = .rdFrame3 := by decide

/-- The encoder gives the words of 95_test_vectors.md 3.8. -/
theorem test_encode_writes :
    encode .start = 0x4000000001#39 ∧ encode (.wrConfig 0x03E8#16 true) = 0x48000103E8#39 ∧
    encode (.wrStatus true) = 0x4400000004#39 ∧ encode (.wrThresh 0x001A#16) = 0x4C0000001A#39 := by decide

theorem test_decodeTableWord :
    decodeTableWord 40 0x4000000001 = some .start ∧ decodeTableWord 40 0x2400000000 = some .rdParam ∧
    decodeTableWord 40 0x8000000000 = none := by decide

theorem test_decodeBytes_refuses :
    decodeBytes [0x01#8, 0x00#8, 0x00#8, 0x00#8] = .error .truncated ∧
    decodeBytes [0x01#8, 0x00#8, 0x00#8, 0x00#8, 0xC0#8] = .error .notATransactionWord ∧
    decodeBytes [0x01#8, 0x00#8, 0x00#8, 0x00#8, 0x40#8, 0x07#8] = .ok (.start, [0x07#8]) := by
  exact ⟨rfl, rfl, rfl⟩

/-- Host assembly, with the words of the programs P1 to P4. -/
theorem test_assemble :
    AsmLine.start.assemble = 0x4000000001#39 ∧ AsmLine.clrStats.assemble = 0x4000000002#39 ∧
    AsmLine.clrIgn.assemble = 0x4400000004#39 ∧ AsmLine.nop.assemble = 0x4000000000#39 ∧
    AsmLine.waitDone.assemble = 0x0400000000#39 ∧ (AsmLine.wr .config 0x000103E8#32).assemble = 0x48000103E8#39 ∧
    (AsmLine.rd .frame2).assemble = 0x3800000000#39 ∧
    AsmLine.waitDone.finished (some 0x00006002#32) = true ∧ AsmLine.waitDone.finished (some 0x00000011#32) = false := by
  decide

/-! ## Steps -/

/-- The block after reset. -/
def idleBlock : Block := State.reset.block

/-- A machine with the block `b` and one cycle's pins. -/
def machine (b : Block) (access : Option TransWord) (resp usTick : Bool) : State where
  block := b
  hostPort := [{ rst := false, access := access }]
  envPort := [{ resp := resp, usTick := usTick }]
  cycleNo := 0
  busRdata := none

/-- The word a machine read in its last cycle, and one it would read at `r` in the next. -/
def readAfter (r : Reg) : Result → Option (Option Word × Word)
  | .next t => some (t.busRdata, readReg Config.params t.block r.offset)
  | .fault _ => none
  | .refused _ => none

/-- A read in its first wait. -/
def waiting : Block := { idleBlock with st := .waitHigh }

/-- A read in MEASURE_LOW. -/
def measuring : Block := { idleBlock with st := .measureLow, w := 10#16 }

/-- A complete capture of the frame `fb`. -/
def captured (fb : List Byte) : Block := { idleBlock with st := .eval, p := 96#8, fb := fb }

/-- The frame GOOD of 95_test_vectors.md 1. -/
def good : List Byte :=
  [0x9A#8, 0x72#8, 0x00#8, 0x00#8, 0x00#8, 0x00#8, 0x28#8, 0xC8#8, 0xD2#8, 0xDC#8, 0xE6#8, 0xF0#8]

/-- GOOD with the last byte 0xF1: a bad checksum. -/
def badChecksum : List Byte :=
  [0x9A#8, 0x72#8, 0x00#8, 0x00#8, 0x00#8, 0x00#8, 0x28#8, 0xC8#8, 0xD2#8, 0xDC#8, 0xE6#8, 0xF1#8]

/-- The finished read of the frame GOOD. -/
def finishedGood : Block :=
  { captured good with st := .idle, done := true, resCode := 1#3, resLvl := 4#4, resBase := 9#4, levelQ := 17454#15 }

/-- START from reset: STATUS 0x11 in the next cycle (3.8). -/
theorem test_start_status :
    readAfter .status (exec .start (machine idleBlock none true false)) = some (none, 0x00000011#32) := by decide

/-- START in the cycle in which `Finish` runs is dropped: IDLE, DONE 1, IGN 1 (3.8); deadline 1, at the first tick (3.2). -/
theorem test_start_inFinishCycle :
    readAfter .status (exec .start (machine { waiting with cfgDeadline := 1#16 } none true true)) =
      some (none, 0x00000006#32) := by decide

theorem test_nop : exec .nop (machine idleBlock none true true) =
    .next { machine idleBlock none true true with hostPort := [], envPort := [], cycleNo := 1 } := rfl

/-- CLRSTATS with NR 5, PRE 2 (3.8). -/
theorem test_clearStats :
    readAfter .nrCnt (exec .clearStats (machine { idleBlock with nrCnt := 5#32, preCnt := 2#32 } none true true)) =
      some (none, 0#32) := by decide

/-- CLRSTATS in the cycle in which `Finish(NO_RESPONSE)` runs (3.8). -/
theorem test_clearStats_inFinishCycle :
    readAfter .nrCnt (exec .clearStats (machine { waiting with cfgDeadline := 1#16, nrCnt := 5#32 } none true true)) =
      some (none, 1#32) := by decide

/-- WR CTRL, 0x03 and 0xFF: IGN and nothing else (3.8). -/
theorem test_reservedCommands :
    readAfter .status (exec .cmdReserved03 (machine idleBlock none true true)) = some (none, 0x00000004#32) ∧
    readAfter .status (exec (.cmdReserved80toFF 0xFF#8) (machine idleBlock none true true)) =
      some (none, 0x00000004#32) := by decide

/-- WR CONFIG, 0xFFFF0064 reads back 0x00010064 (3.8). -/
theorem test_wrConfig :
    readAfter .config (step (machine idleBlock (some 0x48FFFF0064#39) true false)) = some (none, 0x00010064#32) := by decide

/-- WR CONFIG while BUSY is dropped, with IGN (3.8). -/
theorem test_wrConfig_busy :
    readAfter .config (step (machine waiting (some 0x4800000064#39) true false)) = some (none, 0x000003E8#32) ∧
    readAfter .status (step (machine waiting (some 0x4800000064#39) true false)) = some (none, 0x00000015#32) := by decide

/-- WR THRESH, 0x00120020 reads back 0x20 (3.8); while BUSY it is dropped (P4). -/
theorem test_wrThresh :
    readAfter .thresh (step (machine idleBlock (some 0x4C00120020#39) true false)) = some (none, 0x00000020#32) ∧
    readAfter .thresh (step (machine waiting (some 0x4C00000020#39) true false)) = some (none, 0x0000001A#32) := by decide

/-- CLRIGN clears IGN; WR STATUS, 0xFFFFFFFB does not (3.8). -/
theorem test_wrStatus :
    readAfter .status (step (machine { idleBlock with ign := true } (some 0x4400000004#39) true false)) = some (none, 0#32) ∧
    readAfter .status (step (machine { idleBlock with ign := true } (some 0x44FFFFFFFB#39) true false)) =
      some (none, 0x00000004#32) := by decide

/-- WR NR_CNT, 0 with NR_CNT 3, and WR FRAME0: no change (3.8). -/
theorem test_wrReadOnly :
    readAfter .nrCnt (step (machine { idleBlock with nrCnt := 3#32 } (some 0x5800000000#39) true false)) = some (none, 3#32) ∧
    readAfter .frame0 (step (machine idleBlock (some 0x7012345678#39) true false)) = some (none, 0#32) ∧
    readAfter .status (step (machine idleBlock (some 0x7012345678#39) true false)) = some (none, 0#32) := by decide

/-- The reads after reset (3.8). -/
theorem test_reads_reset :
    readAfter .status (step (machine idleBlock (some 0x0400000000#39) true true)) = some (some 0x00000000#32, 0#32) ∧
    readAfter .status (step (machine idleBlock (some 0x0800000000#39) true true)) = some (some 0x000003E8#32, 0#32) ∧
    readAfter .status (step (machine idleBlock (some 0x0E00000000#39) true true)) = some (some 0x0000001A#32, 0#32) ∧
    readAfter .status (step (machine idleBlock (some 0x2400000000#39) true true)) = some (some 0x0000600C#32, 0#32) ∧
    readAfter .status (step (machine idleBlock (some 0x0000000000#39) true true)) = some (some 0#32, 0#32) ∧
    readAfter .status (step (machine idleBlock (some 0x2C00000000#39) true true)) = some (some 0#32, 0#32) := by decide

/-- The end state of program P1: STATUS, RESULT, LEVEL and the frame words. -/
theorem test_reads_P1 :
    readAfter .status (step (machine finishedGood (some 0x1000000000#39) true true)) =
      some (some 0x00000941#32, 0x00006002#32) ∧
    readAfter .frame0 (step (machine finishedGood (some 0x1400000000#39) true true)) =
      some (some 0x0000442E#32, 0x0000729A#32) ∧
    readAfter .frame2 (step (machine finishedGood (some 0x3400000000#39) true true)) =
      some (some 0xC8280000#32, 0xF0E6DCD2#32) ∧
    readAfter .frame3 (step (machine finishedGood (some 0x3C00000000#39) true true)) = some (some 0#32, 0#32) := by decide

/-- EVAL of GOOD, of a bad preamble, of a bad checksum, of GOOD with CAL_PRESENT (3.6); the guarded 100 % (E3), and the
all-zero payload with CAL_PRESENT (E5). -/
theorem test_eval :
    readAfter .result (step (machine (captured good) (some 0x0400000000#39) true false)) =
      some (some 0x00006031#32, 0x00000941#32) ∧
    readAfter .level (step (machine (captured good) none true false)) = some (none, 0x0000442E#32) ∧
    readAfter .result (step (machine (captured (0x8A#8 :: badChecksum.tail)) none true false)) = some (none, 0x00000003#32) ∧
    readAfter .preCnt (step (machine (captured (0x8A#8 :: badChecksum.tail)) none true false)) = some (none, 1#32) ∧
    readAfter .result (step (machine { captured badChecksum with cfgCal := true } none true false)) =
      some (none, 0x00000004#32) ∧
    readAfter .ckCnt (step (machine (captured badChecksum) none true false)) = some (none, 1#32) ∧
    readAfter .result (step (machine { captured good with cfgCal := true } none true false)) = some (none, 0x00000005#32) ∧
    readAfter .result (step (machine (captured (0x9F#8 :: 0x00#8 :: 0x02#8 :: List.replicate 9 0x00#8)) none true false)) =
      some (none, 0x00002001#32) ∧
    readAfter .result (step (machine { captured (0x9A#8 :: 0xFE#8 :: List.replicate 10 0x00#8) with cfgCal := true }
      none true false)) = some (none, 0x00001001#32) := by decide +kernel

/-- V-L6, V-L8 and V-L10 of 3.7. -/
theorem test_levels :
    levelQ .mean [0, 0, 0, 0, 5, 0, 0, 0, 0, 0] 4 4 = 5120 ∧
    levelQ .mean [0, 0, 0, 0, 0, 255, 255, 255, 255, 255] 9 5 = 25600 ∧
    levelQ .sum [0, 0, 0, 0, 0, 255, 255, 255, 255, 255] 9 5 = 16640 ∧
    levelQ .mean (1 :: List.replicate 9 255) 9 0 = 23140 ∧ levelQ .sum (1 :: List.replicate 9 255) 9 0 = 23051 := by decide

/-- The 100th low tick at DEADLINE 100: NO_RESPONSE, `w` keeps 99, NR_CNT 1 (3.2). -/
theorem test_deadline :
    (cyclePorts Config.params { waiting with st := .measureLow, w := 99#16, cfgDeadline := 100#16 }
      { rst := false, resp := false, usTick := true, busEn := false, busWe := false, busAddr := 0, busWdata := 0 }) =
    { waiting with st := .idle, w := 99#16, cfgDeadline := 100#16, done := true, resCode := 2#3, nrCnt := 1#32 } := by decide

/-- Pulse 8 with bit 1 gives FRAME0 0x8000, pulse 95 FRAME2 0x01000000 (3.3). -/
theorem test_placeBit :
    frameWord { idleBlock with fb := placeBit idleBlock.fb 8 true } 0 = 0x00008000#32 ∧
    frameWord { idleBlock with fb := placeBit idleBlock.fb 95 true } 2 = 0x01000000#32 := by decide

/-- Widths 10,30,30,10,10,30,10,30 are the byte 0x9A (3.3). -/
theorem test_decodeByte :
    decodeByte [10#16, 30#16, 30#16, 10#16, 10#16, 30#16, 10#16, 30#16] 26#16 = 0x9A#8 := by decide

/-- A counter at its end stays there (3.9). -/
theorem test_saturation :
    counterNext false 0xFFFFFFFE#32 true = 0xFFFFFFFF#32 ∧ counterNext false 0xFFFFFFFF#32 true = 0xFFFFFFFF#32 := by decide

/-- A stored operation is the one the next step runs, from reset. -/
theorem test_withFetchWord :
    readAfter .status (step (State.reset.withFetchWord 40 0x4000000001)) = some (none, 0x00000011#32) := by decide

/-! ## Witnesses: states and operands that meet the hypotheses of the statements -/

/-- One cycle of the environment, without a transaction. -/
def pins (resp usTick : Bool) : Inputs where
  rst := false
  resp := resp
  usTick := usTick
  busEn := false
  busWe := false
  busAddr := 0#6
  busWdata := 0#32

/-- A cycle with a START on the bus. -/
def startPins : Inputs := { pins true false with busEn := true, busWe := true, busWdata := 1#32 }

/-- The smallest legal size. -/
def small : Params := { frameBytes := 3, avgNorm := .mean, fClkHz := 2000000, selectWindowUs := 10 }

theorem witness_DecodeEncodeRoundTrip :
    (Instr.cmdReserved40to7F 0x7F#8).WellFormed ∧ (Instr.cmdReserved04to07 0x04#8).WellFormed ∧
    (Instr.wrRo10to1C 0x7#4).WellFormed ∧ (Instr.wrRo20to3C 0xF#4).WellFormed ∧
    (Instr.wrConfig 0xFFFF#16 true).WellFormed := by decide

theorem witness_IgnoredBitsHaveNoEffect :
    (0x0E00000000#39 &&& significantBits (decode 0x0E00000000#39) =
      0x0C12345678#39 &&& significantBits (decode 0x0E00000000#39)) ∧ 0x0E00000000#39 ≠ 0x0C12345678#39 := by decide

theorem witness_EveryWordIsOfExactlyOneRow :
    twWe 0x4000000001#39 = twWe 0x43FFFFFF01#39 ∧
    addrWord (twAddr 0x4000000001#39) = addrWord (twAddr 0x43FFFFFF01#39) ∧
    (twWdata 0x4000000001#39).extractLsb' 0 8 = (twWdata 0x43FFFFFF01#39).extractLsb' 0 8 := by decide

theorem witness_StepRunsTheDecodedTransaction :
    (machine idleBlock (some 0x4000000001#39) true true).hostNow.access = some 0x4000000001#39 ∧
    (machine idleBlock none true true).hostNow.access = none ∧ Instr.start.WellFormed := by decide

/-- A machine whose `rst` is high in a cycle with a write to THRESH. -/
def resetting : State :=
  { machine { measuring with p := 40#8, nrCnt := 3#32, cfgThresh := 0x20#16, ign := true } none true true with
    hostPort := [{ rst := true, access := some 0x4C00000005#39 }] }

theorem witness_ResetOverridesTheCycle : resetting.hostNow.rst = true := by decide

theorem witness_IdleBlockKeepsEverything :
    finishedGood.st = .idle ∧ (pins false true).rst = false ∧ (pins false true).busEn = false := by decide

theorem witness_WaitHighStepOutcomes :
    waiting.st = .waitHigh ∧ (pins false true).resp = false ∧ (pins true false).usTick = false ∧
    (pins true true).resp = true ∧ (pins true true).usTick = true ∧ (pins true true).rst = false ∧
    (pins true true).busEn = false ∧ waiting.t.toNat + 1 < waiting.cfgDeadline.toNat ∧
    ({ waiting with t := 999#16 } : Block).cfgDeadline.toNat ≤ ({ waiting with t := 999#16 } : Block).t.toNat + 1 := by decide

theorem witness_MeasureLowStepOutcomes :
    measuring.st = .measureLow ∧ (pins true true).resp = true ∧
    ({ measuring with p := 95#8 } : Block).p.toNat + 1 = Config.params.npulse ∧
    (pins false true).resp = false ∧ measuring.w.toNat + 1 < measuring.cfgDeadline.toNat ∧
    ({ measuring with w := 999#16 } : Block).cfgDeadline.toNat ≤ ({ measuring with w := 999#16 } : Block).w.toNat + 1 := by
  decide

/-- Both waits, with DEADLINE 2 (one tick before the last) and with DEADLINE 0 (none). -/
theorem witness_EachWaitFailsAtItsDeadlineTick :
    (let b : Block := { waiting with cfgDeadline := 2#16 }
     let ins := [pins true false, pins true true]
     b.st = .waitHigh ∧ b.t = 0#16 ∧ (∀ inp ∈ ins, inp.rst = false ∧ inp.resp = true) ∧
       tickCount ins + 1 = b.waitLimit) ∧
    (let b : Block := { waiting with cfgDeadline := 0#16 }
     tickCount [] + 1 = b.waitLimit) ∧
    (let b : Block := { measuring with w := 0#16, cfgDeadline := 2#16 }
     let ins := [pins false true, pins false false]
     b.st = .measureLow ∧ b.w = 0#16 ∧ (∀ inp ∈ ins, inp.rst = false ∧ inp.resp = false) ∧
       tickCount ins + 1 = b.waitLimit) := by decide

theorem witness_WidthIsTheTicksOfTheLowPeriod :
    (let lows := [pins false false, pins false true, pins false false]
     waiting.st = .waitHigh ∧ (∀ inp ∈ lows, inp.rst = false ∧ inp.resp = false) ∧ tickCount lows < waiting.waitLimit ∧
       ∀ j (h : j < lows.length), lows[j].usTick = decide ((j + 1) % 2 = 0)) := by decide

@[simp] theorem frameBit_replicate (n q : Nat) : frameBit (List.replicate n 0#8) q = false := by
  unfold frameBit
  rw [List.getD_eq_getElem?_getD, List.getElem?_replicate]
  split <;> simp

/-- The block's invariant holds of a read that has not ended its first pulse. -/
theorem witness_inv_inFlight (b : Block) (h : b = waiting ∨ b = { measuring with cfgThresh := 1000#16 }) :
    b.Inv Config.params := by
  rcases h with rfl | rfl <;>
  exact ⟨by decide, by decide, by decide, by decide, by decide, by decide, by decide, by decide, by decide, by decide,
    by decide, by decide, by decide, fun q _ _ => frameBit_replicate 12 q⟩

theorem witness_WidthBelowThresholdIsBitOne :
    ({ measuring with cfgThresh := 1000#16 } : Block).Inv Config.params ∧
    ({ measuring with cfgThresh := 1000#16 } : Block).waitLimit ≤ ({ measuring with cfgThresh := 1000#16 } : Block).cfgThresh.toNat :=
  ⟨witness_inv_inFlight _ (.inr rfl), by decide⟩

theorem witness_PlacedBitIsTheOnlyOneWritten :
    95 < 8 * idleBlock.fb.length ∧ (0 : Nat) < 8 ∧ ¬ (10 = 95 / 8 ∧ (0 : Nat) = 7 - 95 % 8) := by decide

theorem witness_FrameIsDecodedMostSignificantBitFirst :
    (List.replicate 96 10#16).length = Config.params.npulse ∧ (List.replicate 95 10#16).length ≠ Config.params.npulse := by
  decide

theorem witness_EveryCycleKeepsTheCaptureInvariant :
    Config.params.Legal ∧ ({ block := waiting, widths := [] } : Traced).Inv Config.params :=
  ⟨by decide, witness_inv_inFlight _ (.inl rfl), fun _ => rfl, fun _ q h => absurd h (Nat.not_lt_zero q)⟩

/-- A read in flight, and one on entry to EVAL after 24 pulses. -/
theorem witness_FrameBufferHoldsTheDecodedWidths :
    small.Legal ∧ (tracedRun small [startPins]).block.st ≠ .idle ∧
    (tracedRun small (startPins :: (List.replicate 24 [pins false false, pins true false]).flatten)).block.st = .eval := by
  decide +kernel

/-- The bound's ticks at the smallest size, and each wait without ticks. -/
theorem witness_EveryReadEndsGivenTicks :
    (let b : Block := { waiting with cfgDeadline := 1#16, fb := [0#8, 0#8, 0#8] }
     let ins := List.replicate 48 (pins false true)
     b.st = .waitHigh ∧ b.p = 0#8 ∧ b.t = 0#16 ∧ small.Legal ∧ (∀ inp ∈ ins, inp.rst = false) ∧
       2 * small.npulse * b.waitLimit ≤ tickCount ins) ∧
    (waiting.st = .waitHigh ∧ ∀ inp ∈ [pins true false, pins true false],
      inp.rst = false ∧ inp.usTick = false ∧ inp.resp = true) ∧
    (measuring.st = .measureLow ∧ ∀ inp ∈ [pins false false, pins false false],
      inp.rst = false ∧ inp.usTick = false ∧ inp.resp = false) := by decide

theorem witness_VerdictsComeInTheirOrder :
    (good.take 11).length < Config.params.frameBytes ∧
    (Config.params.frameBytes ≤ good.length ∧ preambleOk 0x8A#8 = false) ∧
    (preambleOk (badChecksum.getD 0 0#8) = true ∧ checksumOk Config.params badChecksum = false) ∧
    (preambleOk (good.getD 0 0#8) = true ∧ checksumOk Config.params good = true) := by decide

/-- Levels of 3.7: GOOD, a clamped one (V-L8), and one with the guard (V-L5). -/
theorem witness_levels :
    estimate .mean (good.drop 2) false = .level (750 / 11) 4 9 false false ∧
    estimate .mean [0, 0, 0, 0, 0, 255, 255, 255, 255, 255] false = .level 100 5 9 false false ∧
    estimate .mean [0, 0, 0, 0, 0, 0, 0, 0, 0, 77] false = .level 10 9 9 false true := by decide +kernel

theorem witness_EvalEndsTheReadWithItsOutcome :
    ((captured good).st = .eval ∧ (captured good).fb.length = Config.params.frameBytes ∧
      validate Config.params (0x8A#8 :: badChecksum.tail) = .preambleError ∧
      validate Config.params badChecksum = .checksumError ∧ validate Config.params good = .ok (good.drop 2) ∧
      estimate .mean (good.drop 2) true = .unsupported) ∧
    estimate .mean (good.drop 2) false = .level (750 / 11) 4 9 false false :=
  ⟨by decide, witness_levels.1⟩

/-- The cycle that ends a read in NO_RESPONSE with the counter at its end. -/
theorem witness_CountersCountFailedReadsAndSaturate :
    (pins true true).rst = false ∧
    (let b : Block := { waiting with cfgDeadline := 1#16, nrCnt := 0xFFFFFFFF#32 }
     b.busy = true ∧ (cyclePorts Config.params b (pins true true)).st = .idle ∧
       (cyclePorts Config.params b (pins true true)).resCode = 2#3) := by decide

theorem witness_SegmentsAreTheExtremeNonzeroOnes :
    (∃ v ∈ good.drop 2, v ≠ 0#8) ∧ baseSegment (good.drop 2) = 9 ∧ levelSegment (good.drop 2) = 4 := by decide

theorem witness_AllZeroComesBeforeCalibration :
    (∀ v ∈ List.replicate 10 0#8, v = 0#8) ∧ (∃ v ∈ good.drop 2, v ≠ 0#8) := by decide

/-- An empty tail (V-L5), a zero tail (V-L6), and neither. -/
theorem witness_GuardedLevelIsOneSegment :
    tailCount [0, 0, 0, 0, 0, 0, 0, 0, 0, 77] 9 = 0 ∧ levelSegment [0, 0, 0, 0, 0, 0, 0, 0, 0, 77] = 9 ∧
    tailSum [0, 0, 0, 0, 5, 0, 0, 0, 0, 0] 4 = 0 ∧ levelSegment [0, 0, 0, 0, 5, 0, 0, 0, 0, 0] = 4 ∧
    tailCount (good.drop 2) (levelSegment (good.drop 2)) ≠ 0 ∧ tailSum (good.drop 2) (levelSegment (good.drop 2)) ≠ 0 := by
  decide

theorem witness_UnguardedLevelIsTheClosedForm :
    (∃ v ∈ good.drop 2, v ≠ 0#8) ∧ 9 = baseSegment (good.drop 2) ∧ 4 = levelSegment (good.drop 2) ∧
    tailCount (good.drop 2) 4 = 5 ∧ tailSum (good.drop 2) 4 = 1100 := by decide

/-- A clamped level (V-L8). -/
theorem witness_LevelsAreInRange :
    estimate .mean [0, 0, 0, 0, 0, 255, 255, 255, 255, 255] false = .level 100 5 9 false false := witness_levels.2.1

/-- One level without the guard, and one with it (V-L5). -/
theorem witness_IntegerDatapathComputesTheLevel :
    estimate .mean (good.drop 2) false = .level (750 / 11) 4 9 false false ∧
    estimate .mean [0, 0, 0, 0, 0, 0, 0, 0, 0, 77] false = .level 10 9 9 false true :=
  ⟨witness_levels.1, witness_levels.2.2⟩

theorem witness_DatapathFitsItsDivider :
    (List.replicate 14 255#8).length ≤ 14 ∧ ∃ v ∈ List.replicate 14 255#8, v ≠ 0#8 := by decide

/-- The hypotheses of the host operations' statements: no reset, the block IDLE, and busy. -/
theorem witness_hostOperations :
    (machine idleBlock none true true).hostNow.rst = false ∧ (machine idleBlock none true true).block.st = .idle ∧
    (machine waiting none true true).hostNow.rst = false ∧ (machine waiting none true true).block.st ≠ .idle := by decide

theorem witness_ReservedCommandsSetIgnOnly :
    (machine waiting none true true).hostNow.rst = false ∧
    Instr.cmdReserved04to07 0x07#8 ∈ [Instr.cmdReserved03, .cmdReserved04to07 0x07#8] := by decide

/-- Every write of the statement completes on an IDLE block, and byte addresses lie on either side of each clause's words. -/
theorem witness_WindowOutsideTheTargetReadsAsBefore :
    (let s := machine finishedGood none true true
     s.hostNow.rst = false ∧ s.block.st = .idle ∧
       (∃ t, exec (.wrConfig 1#16 true) s = .next t) ∧ (∃ t, exec (.wrThresh 1#16) s = .next t) ∧
       (∃ t, exec .cmdReserved03 s = .next t) ∧ (∃ t, exec (.wrStatus true) s = .next t) ∧
       (∃ t, exec .clearStats s = .next t) ∧ ∃ t, exec .start s = .next t) ∧
    (addrWord 0x03#6 ≠ 0x1#4 ∧ addrWord 0x04#6 = 0x1#4 ∧ addrWord 0x07#6 = 0x1#4 ∧ addrWord 0x08#6 = 0x2#4 ∧
      addrWord 0x0B#6 = 0x2#4 ∧ addrWord 0x0C#6 = 0x3#4 ∧ addrWord 0x0F#6 = 0x3#4 ∧ addrWord 0x10#6 = 0x4#4 ∧
      addrWord 0x17#6 = 0x5#4 ∧ addrWord 0x18#6 = 0x6#4 ∧ addrWord 0x23#6 = 0x8#4 ∧ addrWord 0x24#6 = 0x9#4 ∧
      addrWord 0x2F#6 < 0xC#4 ∧ 0xC#4 ≤ addrWord 0x30#6 ∧ 0xC#4 ≤ addrWord 0x3F#6) :=
  ⟨⟨by decide, by decide, ⟨_, rfl⟩, ⟨_, rfl⟩, ⟨_, rfl⟩, ⟨_, rfl⟩, ⟨_, rfl⟩, ⟨_, rfl⟩⟩, by decide⟩

/-- A reserved command of the widest row, and both writes to STATUS, with IGN set before. -/
theorem witness_IgnWritesShowInStatusAlone :
    (let s := machine { finishedGood with ign := true } none true true
     s.hostNow.rst = false ∧ s.block.st = .idle ∧ (∃ t, exec (.cmdReserved80toFF 0xFF#8) s = .next t) ∧
       (∃ t, exec (.wrStatus true) s = .next t) ∧ ∃ t, exec (.wrStatus false) s = .next t) ∧
    addrWord 0x04#6 = 0x1#4 ∧ addrWord 0x08#6 ≠ 0x1#4 :=
  ⟨⟨by decide, by decide, ⟨_, rfl⟩, ⟨_, rfl⟩, ⟨_, rfl⟩⟩, by decide, by decide⟩

/-- The least clock, a tick in it, and three cycles a microsecond. -/
theorem witness_TimebaseStrobesOncePerMicrosecond :
    small.LegalClock ∧ tickAt small 0 1 = true ∧ 2 ≤ 3 ∧
    ({ small with fClkHz := 3000000 } : Params).fClkHz = 3 * 1000000 := by decide

/-- Two cycles a microsecond (the stimulus of 95_test_vectors.md 1: an A cycle, then a B cycle with the tick), 96 cycles and
DEADLINE 1. -/
theorem witness_EveryReadEndsInItsTimeAtTheClock :
    (let b : Block := { waiting with cfgDeadline := 1#16, fb := [0#8, 0#8, 0#8] }
     let ins := (List.replicate 48 [pins false false, pins false true]).flatten
     b.st = .waitHigh ∧ b.p = 0#8 ∧ b.t = 0#16 ∧ small.Legal ∧ small.LegalClock ∧ (∀ inp ∈ ins, inp.rst = false) ∧
       (∀ j (h : j < ins.length), ins[j].usTick = tickAt small 0 j) ∧
       2 * small.npulse * b.waitLimit * small.fClkHz ≤ ins.length * 1000000) := by decide

/-- A START at the last microsecond of the window and a sensor that answers 2 us later; and a sensor that does not answer,
until DEADLINE 2. -/
theorem witness_FirstPulseNeedsTheWindowAndTheDeadline :
    (let r : Selection := { sinceTrain := 10, sensorDelay := some 12 }
     let ins := [pins true false, pins true true, pins true false, pins true true]
     waiting.st = .waitHigh ∧ waiting.p = 0#8 ∧ waiting.t = 0#16 ∧ r.inWindow small = true ∧ r.BeforeAnswer small ins ∧
       r.deadlineCovers waiting = true ∧ (∀ inp ∈ ins, inp.rst = false) ∧ (pins false false).resp = false) ∧
    (let r : Selection := { sinceTrain := 0, sensorDelay := none }
     let b : Block := { waiting with cfgDeadline := 2#16 }
     let ins := [pins true true, pins true true]
     r.inWindow small = true ∧ r.BeforeAnswer small ins ∧ b.waitLimit ≤ tickCount ins) := by
  refine ⟨⟨rfl, rfl, rfl, by decide, fun _ => ⟨by decide, ?_⟩, by decide, by decide, rfl⟩, by decide,
    fun _ => ⟨by decide, ?_⟩, by decide⟩
  · rintro d ⟨⟩
    decide
  · rintro d ⟨⟩

theorem witness_EveryStepKeepsTheInvariant :
    (machine waiting (some 0x4000000001#39) true true).Inv ∧
    ∃ t, step (machine waiting (some 0x4000000001#39) true true) = .next t :=
  ⟨witness_inv_inFlight _ (.inl rfl), ⟨_, rfl⟩⟩

theorem witness_ConsistencyCheckPasses : (machine waiting none true true).Inv :=
  witness_inv_inFlight _ (.inl rfl)

theorem witness_OnlyStartMakesTheBlockBusy :
    (∃ t, step (machine finishedGood (some 0x4000000001#39) true true) = .next t) ∧
    (machine finishedGood (some 0x4000000001#39) true true).block.st = .idle ∧ decode 0x4000000001#39 = .start :=
  ⟨⟨_, rfl⟩, by decide, by decide⟩

/-- A dropped write in the cycle that ends the read. -/
theorem witness_ReadInFlightKeepsItsConfiguration :
    (let s := machine { waiting with cfgDeadline := 1#16 } (some 0x4C00000020#39) true true
     (∃ t, step s = .next t) ∧ s.block.busy = true ∧ s.hostNow.rst = false) :=
  ⟨⟨_, rfl⟩, by decide, by decide⟩

theorem witness_CompletedReadStaysReadable :
    (let s := machine finishedGood (some 0x4C00000020#39) false true
     (∃ t, step s = .next t) ∧ s.block.resultsValid = true ∧ s.hostNow.rst = false ∧
       ∀ tw, s.hostNow.access = some tw → decode tw ≠ .start) := by
  refine ⟨⟨_, rfl⟩, by decide, by decide, ?_⟩
  intro tw h
  cases h
  decide

theorem witness_HostCannotDisturbAReadInFlight :
    (let s := machine waiting (some 0x4000000001#39) true true
     let t := machine waiting none true true
     s.block = t.block ∧ s.envNow = t.envNow ∧ s.block.busy = true ∧ s.hostNow.rst = false ∧ t.hostNow.rst = false ∧
       (∃ s', step s = .next s') ∧ ∃ t', step t = .next t') :=
  ⟨rfl, rfl, by decide, by decide, by decide, ⟨_, rfl⟩, ⟨_, rfl⟩⟩

theorem witness_IgnRecordsDroppedWrites :
    (let s := machine waiting (some 0x4000000001#39) true true
     (∃ t, step s = .next t) ∧ s.hostNow.rst = false ∧ s.hostNow.access = some 0x4000000001#39) :=
  ⟨⟨_, rfl⟩, by decide, by decide⟩

theorem witness_BusyBlockShowsNoResult :
    (machine waiting none true true).Inv ∧ (machine waiting none true true).block.busy = true :=
  ⟨witness_inv_inFlight _ (.inl rfl), by decide⟩

end Sys2Proof.Tests
end

section
/-! Proofs about the state vector (10_state.md): reset, and the writer of IGN. First the block after a step, said once. -/

namespace Sys2Proof.Machine

/-! ## The block after a step -/

/-- The effect of a decoded transaction on the next block `n`, given the start-of-cycle block (43_host_commands.md R282 to
R289): the `host` argument of the cycle that `exec` runs, by `exec_eq_busCycle`. -/
def hostEffect : Instr → Block → Block → Block
  | .start => hostStart
  | .cmdReserved03 | .cmdReserved04to07 _ | .cmdReserved08to0F _ | .cmdReserved10to1F _ | .cmdReserved20to3F _
  | .cmdReserved40to7F _ | .cmdReserved80toFF _ => fun _ n => setIgn n
  | .wrStatus clearIgn => fun _ n => clearIgnIf clearIgn n
  | .wrConfig deadline calPresent => hostConfig deadline calPresent
  | .wrThresh thresh => hostThresh thresh
  | _ => hostSkip

/-- Every transaction is a cycle with its host effect, and clears the counters if it is CLEAR_STATS. -/
theorem exec_eq_busCycle (i : Instr) (s : State) :
    ∃ rdata, exec i s = busCycle (hostEffect i) (decide (i = .clearStats)) rdata s := by
  cases i <;> exact ⟨_, rfl⟩

/-- Every step is a cycle of the machine. -/
theorem step_eq_busCycle (s : State) : ∃ host clr rdata, step s = busCycle host clr rdata s := by
  unfold step
  cases s.hostNow.access with
  | none => exact ⟨_, _, _, rfl⟩
  | some tw => exact ⟨_, _, exec_eq_busCycle (decode tw) s⟩

theorem step_block_of_reset {s t : State} (h : step s = .next t) (hr : s.hostNow.rst = true) :
    t.block = Block.reset Config.params := by
  obtain ⟨host, clr, rdata, e⟩ := step_eq_busCycle s
  rw [e, busCycle, hr, if_pos rfl] at h
  cases h
  rfl

theorem step_block_of_quiet {s t : State} (h : step s = .next t) (hr : s.hostNow.rst = false)
    (ha : s.hostNow.access = none) : t.block = s.quietBlock := by
  have e : step s = quietCycle s := by simp only [step, ha]
  rw [e, quietCycle, busCycle_noReset _ _ _ _ hr] at h
  cases h
  exact (quietBlock_eq s).symm

theorem step_block_of_access {s t : State} {tw : TransWord} (h : step s = .next t) (hr : s.hostNow.rst = false)
    (ha : s.hostNow.access = some tw) :
    t.block = s.block.cycle Config.params (hostEffect (decode tw)) (decide (decode tw = .clearStats)) s.envNow := by
  obtain ⟨rdata, e⟩ := exec_eq_busCycle (decode tw) s
  have es : step s = exec (decode tw) s := by simp only [step, ha]
  rw [es, e, busCycle_noReset _ _ _ _ hr] at h
  cases h
  rfl

/-! ## IGN over the parts of a cycle (10_state.md R37) -/

@[simp] theorem evalStep_ign (P : Params) (s : Block) : (evalStep P s).1.ign = s.ign := by
  rcases evalStep_cases P s with ⟨code, -, -, h⟩ | ⟨payload, L, lvl, base, az, g, -, -, h⟩ <;> simp [h, finishFailed]

/-- The capture part never writes IGN. -/
@[simp] theorem capture_ign (P : Params) (s : Block) (e : EnvPins) : (capture P s e).1.ign = s.ign := by
  rcases capture_cases P s e with
    ⟨h, -⟩ | ⟨-, -, h⟩ | ⟨-, -, -, -, h⟩ | ⟨-, -, h⟩ | ⟨-, -, -, -, h⟩ | ⟨-, -, h⟩ | ⟨-, h⟩ <;>
    simp [h, finishFailed]

@[simp] theorem cycle_ign (P : Params) (host : Block → Block → Block) (clr : Bool) (s : Block) (e : EnvPins) :
    (s.cycle P host clr e).ign = (host s (capture P s e).1).ign := rfl

@[simp] theorem hostStart_ign (s n : Block) : (hostStart s n).ign = (n.ign || s.busy) := by
  by_cases h : s.st = .idle <;> simp [hostStart, Block.busy, h]

@[simp] theorem hostConfig_ign (deadline : Ticks) (cal : Bool) (s n : Block) :
    (hostConfig deadline cal s n).ign = (n.ign || s.busy) := by
  by_cases h : s.st = .idle <;> simp [hostConfig, Block.busy, h]

@[simp] theorem hostThresh_ign (thresh : Ticks) (s n : Block) :
    (hostThresh thresh s n).ign = (n.ign || s.busy) := by
  by_cases h : s.st = .idle <;> simp [hostThresh, Block.busy, h]

@[simp] theorem quietBlock_ign (s : State) : s.quietBlock.ign = s.block.ign := by
  rw [quietBlock_eq, cycle_ign, hostSkip, capture_ign]

/-- Settles O52: the capture part keeps IGN, so IGN after a step is what the host's effect makes of it, one case for each
kind of transaction. -/
theorem ignRecordsDroppedWrites : Obligations.IgnRecordsDroppedWrites := by
  unfold Obligations.IgnRecordsDroppedWrites
  intro s t h
  refine ⟨fun hr => ?reset, fun hr ha => ?quiet, fun hr tw ha => ?access⟩
  case reset => rw [step_block_of_reset h hr, Block.reset_ign]
  case quiet => rw [step_block_of_quiet h hr ha, quietBlock_ign]
  case access =>
    rw [step_block_of_access h hr ha, cycle_ign]
    cases decode tw with
    | start | wrConfig | wrThresh => simp [hostEffect]
    | wrStatus clearIgn => cases clearIgn <;> simp [hostEffect]
    | cmdReserved03 | cmdReserved04to07 | cmdReserved08to0F | cmdReserved10to1F | cmdReserved20to3F | cmdReserved40to7F
    | cmdReserved80toFF => rfl
    | _ => exact capture_ign _ _ _

/-! ## Reset (10_state.md R55) -/

/-- Settles O9: each field of the fixed block, and the sixteen words of the window read from it. -/
theorem resetLeavesTheTabledValues : Obligations.ResetLeavesTheTabledValues := by
  unfold Obligations.ResetLeavesTheTabledValues
  refine ⟨rfl, by decide, by decide, by decide, fun r hconfig hthresh hparam => ?_⟩
  cases r with
  | config => exact absurd rfl hconfig
  | thresh => exact absurd rfl hthresh
  | param => exact absurd rfl hparam
  | _ => decide

/-- A block of any legal size meets the invariant at reset: it is IDLE, holds no outcome, and its frame buffer is zero. -/
theorem Block.reset_inv (P : Params) (h : P.Legal) : (Block.reset P).Inv P where
  frameLength := by simp
  pulseBound := by simp
  pulseLeft := by simp
  evalComplete := by simp
  waitBound := by simp
  codeBound := by simp
  doneCode := by simp [OutcomeCode.code]
  busyNotDone := by simp
  onlyOkHasLevel := by simp
  levelBound := by simp
  segmentOrder := by
    have hseg : 0 < P.frameBytes - 2 := by omega
    simpa [Params.nseg] using hseg
  allZero := by simp
  guarded := by simp
  unwritten q _ _ := by
    rw [Block.reset_fb, frameBit, List.getD_eq_getElem?_getD, List.getElem?_getD_replicate_default_eq]
    exact BitVec.getLsbD_zero

/-- Settles O45: this hardware's size is legal. -/
theorem resetMeetsTheInvariant : Obligations.ResetMeetsTheInvariant := by
  unfold Obligations.ResetMeetsTheInvariant
  exact Block.reset_inv Config.params params_legal.1

end Sys2Proof.Machine
end

section
/-! Proofs about the register window (20_memory.md): what the host of an IDLE block reads before and after a cycle. First the
read of a byte address by register name, then the read after each update of the block, then the block after a cycle. -/

namespace Sys2Proof.Machine

/-! ## Byte addresses and registers (20_memory.md R81, R82) -/

/-- Every byte address is of one of the sixteen registers. -/
theorem exists_reg_addrWord (addr : BitVec 6) : ∃ r : Reg, addrWord addr = r.word := by
  rcases word_cases (addrWord addr) with h | h | h | h | h | h | h | h | h | h | h | h | h | h | h | h
  exacts [⟨.ctrl, h⟩, ⟨.status, h⟩, ⟨.config, h⟩, ⟨.thresh, h⟩, ⟨.result, h⟩, ⟨.level, h⟩, ⟨.nrCnt, h⟩, ⟨.preCnt, h⟩,
    ⟨.ckCnt, h⟩, ⟨.param, h⟩, ⟨.rsvd28, h⟩, ⟨.rsvd2C, h⟩, ⟨.frame0, h⟩, ⟨.frame1, h⟩, ⟨.frame2, h⟩, ⟨.frame3, h⟩]

/-- A read at any byte address of a register is the read at its offset. -/
theorem readReg_eq_offset {addr : BitVec 6} {r : Reg} (h : addrWord addr = r.word) (P : Params) (b : Block) :
    readReg P b addr = readReg P b r.offset := by
  simp only [readReg, Reg.offset, addrWord_append, h]

/-! ## The words that a write changes -/

/-- IGN is bit 2 of STATUS, and no other bit of it (10_state.md R44). -/
theorem getLsbD_statusWord_ign (b : Block) (ign : Bool) (k : Nat) :
    (statusWord { b with ign := ign }).getLsbD k = if k = 2 then ign else (statusWord b).getLsbD k := by
  simp only [statusWord, BitVec.getLsbD_cast, BitVec.getLsbD_append, BitVec.getLsbD_ofBool]
  rcases k with _ | _ | _ | k
  · rfl
  · rfl
  · rfl
  · simp

theorem statusWord_setIgn (b : Block) : statusWord (setIgn b) = statusWord b ||| 4#32 := by
  apply BitVec.eq_of_getLsbD_eq
  intro k hk
  have h4 : (4#32).getLsbD k = decide (k = 2) := by revert k; decide
  rw [setIgn, getLsbD_statusWord_ign, BitVec.getLsbD_or, h4]
  by_cases h : k = 2 <;> simp [h]

theorem statusWord_clearIgn (b : Block) : statusWord (clearIgnIf true b) = statusWord b &&& ~~~4#32 := by
  apply BitVec.eq_of_getLsbD_eq
  intro k hk
  have h4 : (~~~4#32).getLsbD k = !decide (k = 2) := by revert k; decide
  rw [clearIgnIf, getLsbD_statusWord_ign, BitVec.getLsbD_and, h4]
  by_cases h : k = 2 <;> simp [h]

/-- CONFIG as a number (10_state.md R45). -/
theorem configWord_eq_ofNat (b : Block) :
    configWord b = BitVec.ofNat 32 (b.cfgDeadline.toNat + 2 ^ 16 * b.cfgCal.toNat) := by
  apply BitVec.eq_of_toNat_eq
  have hd := b.cfgDeadline.isLt
  have hc : b.cfgCal.toNat ≤ 1 := Bool.toNat_le _
  rw [configWord, BitVec.toNat_cast, BitVec.toNat_append, ← Nat.shiftLeft_add_eq_or_of_lt hd, BitVec.toNat_ofNat]
  simp only [BitVec.toNat_append, BitVec.toNat_ofNat, BitVec.toNat_ofBool, Nat.zero_mod,
    Nat.shiftLeft_eq, Nat.zero_mul, Nat.zero_or]
  omega

theorem threshWord_eq_setWidth (b : Block) : threshWord b = b.cfgThresh.setWidth 32 :=
  (BitVec.setWidth_eq_append (by decide)).symm

/-- A read in its first wait: STATE 1 and BUSY, and IGN as it was (10_state.md R44). -/
theorem statusWord_beginRead (b : Block) : statusWord (beginRead b) = if b.ign then 0x15#32 else 0x11#32 := by
  unfold statusWord Block.busy
  simp only [beginRead_p, beginRead_st, beginRead_ign, beginRead_done]
  cases b.ign <;> rfl

theorem resultWord_beginRead (b : Block) : resultWord (beginRead b) = 0#32 := by
  simp only [resultWord, beginRead_resGuard, beginRead_resAllzero, beginRead_resBase, beginRead_resLvl, beginRead_resCode]
  rfl

theorem levelWord_beginRead (b : Block) : levelWord (beginRead b) = 0#32 := by
  simp only [levelWord, beginRead_levelQ]
  rfl

theorem frameWord_beginRead (b : Block) (k : Nat) : frameWord (beginRead b) k = 0#32 := by
  have h : ∀ i, frameByte (beginRead b) i = 0#8 := by
    intro i
    simp only [frameByte, beginRead_fb, List.getD_eq_getElem?_getD, List.getElem?_map]
    cases b.fb[i]? <;> rfl
  simp only [frameWord, h]
  rfl

/-! ## The read of every byte address after each update -/

theorem readReg_setIgn (P : Params) (b : Block) (addr : BitVec 6) :
    readReg P (setIgn b) addr = if addrWord addr = 0x1#4 then readReg P b addr ||| 4#32 else readReg P b addr := by
  obtain ⟨r, hr⟩ := exists_reg_addrWord addr
  simp only [readReg_eq_offset hr, hr]
  cases r with
  | status => exact statusWord_setIgn b
  | _ => rfl

theorem readReg_clearIgn (P : Params) (b : Block) (addr : BitVec 6) :
    readReg P (clearIgnIf true b) addr =
      if addrWord addr = 0x1#4 then readReg P b addr &&& ~~~4#32 else readReg P b addr := by
  obtain ⟨r, hr⟩ := exists_reg_addrWord addr
  simp only [readReg_eq_offset hr, hr]
  cases r with
  | status => exact statusWord_clearIgn b
  | _ => rfl

theorem readReg_config (P : Params) (b : Block) (deadline : Ticks) (cal : Bool) (addr : BitVec 6) :
    readReg P { b with cfgDeadline := deadline, cfgCal := cal } addr =
      if addrWord addr = 0x2#4 then BitVec.ofNat 32 (deadline.toNat + 2 ^ 16 * cal.toNat) else readReg P b addr := by
  obtain ⟨r, hr⟩ := exists_reg_addrWord addr
  simp only [readReg_eq_offset hr, hr]
  cases r with
  | config => exact configWord_eq_ofNat _
  | _ => rfl

theorem readReg_thresh (P : Params) (b : Block) (thresh : Ticks) (addr : BitVec 6) :
    readReg P { b with cfgThresh := thresh } addr =
      if addrWord addr = 0x3#4 then thresh.setWidth 32 else readReg P b addr := by
  obtain ⟨r, hr⟩ := exists_reg_addrWord addr
  simp only [readReg_eq_offset hr, hr]
  cases r with
  | thresh => exact threshWord_eq_setWidth _
  | _ => rfl

/-- The counters cleared in a cycle that counts nothing. -/
theorem readReg_clearCounters (P : Params) (b : Block) (addr : BitVec 6) :
    readReg P (commitCounters true b b Incs.zero) addr =
      if addrWord addr = 0x6#4 ∨ addrWord addr = 0x7#4 ∨ addrWord addr = 0x8#4 then 0#32 else readReg P b addr := by
  obtain ⟨r, hr⟩ := exists_reg_addrWord addr
  simp only [readReg_eq_offset hr, hr]
  cases r with
  | nrCnt | preCnt | ckCnt => exact counterNext_clear _ false
  | _ => rfl

theorem readReg_beginRead (P : Params) (b : Block) (addr : BitVec 6) :
    readReg P (beginRead b) addr =
      if addrWord addr = 0x1#4 then (if b.ign then 0x15#32 else 0x11#32)
      else if addrWord addr = 0x4#4 ∨ addrWord addr = 0x5#4 ∨ 0xC#4 ≤ addrWord addr then 0#32
      else readReg P b addr := by
  obtain ⟨r, hr⟩ := exists_reg_addrWord addr
  simp only [readReg_eq_offset hr, hr]
  cases r with
  | status => exact statusWord_beginRead b
  | result => exact resultWord_beginRead b
  | level => exact levelWord_beginRead b
  | frame0 | frame1 | frame2 | frame3 => exact frameWord_beginRead b _
  | _ => rfl

/-! ## A cycle of an IDLE block without reset -/

@[simp] theorem capture_idle (P : Params) {b : Block} (hi : b.st = .idle) (e : EnvPins) :
    capture P b e = (b, Incs.zero) := by
  simp only [capture, hi]

/-- A host operation that is no START writes IGN and the configuration alone (43_host_commands.md R282 to R289). -/
theorem hostEffect_frame {i : Instr} (h : i ≠ .start) (s n : Block) : ∃ ign deadline cal thresh,
    hostEffect i s n = { n with ign := ign, cfgDeadline := deadline, cfgCal := cal, cfgThresh := thresh } := by
  cases i with
  | start => exact absurd rfl h
  | wrConfig deadline cal =>
    simp only [hostEffect, hostConfig]
    split_ifs <;> exact ⟨_, _, _, _, rfl⟩
  | wrThresh thresh =>
    simp only [hostEffect, hostThresh]
    split_ifs <;> exact ⟨_, _, _, _, rfl⟩
  | _ => exact ⟨_, _, _, _, rfl⟩

/-- The block after a transaction on an IDLE block: the captured block is the old one, and nothing is counted. -/
theorem exec_block_of_idle {i : Instr} {s t : State} (h : exec i s = .next t) (hr : s.hostNow.rst = false)
    (hi : s.block.st = .idle) :
    t.block = commitCounters (decide (i = .clearStats)) s.block (hostEffect i s.block s.block) Incs.zero := by
  obtain ⟨rdata, e⟩ := exec_eq_busCycle i s
  rw [e, busCycle_noReset _ _ _ _ hr] at h
  cases h
  simp only [State.nextCycle_block, Block.cycle, capture_idle _ hi]

/-- Of a transaction other than CLEAR_STATS, the host effect alone is left: it writes no counter. -/
theorem exec_block_of_idle_keepCounters {i : Instr} {s t : State} (h : exec i s = .next t) (hr : s.hostNow.rst = false)
    (hi : s.block.st = .idle) (hc : i ≠ .clearStats) : t.block = hostEffect i s.block s.block := by
  rw [exec_block_of_idle h hr hi, decide_eq_false hc]
  by_cases hs : i = .start
  · simp [hs, hostEffect, hostStart, hi, commitCounters, Incs.zero, beginRead]
  · obtain ⟨ign, deadline, cal, thresh, e⟩ := hostEffect_frame hs s.block s.block
    simp [e, commitCounters, Incs.zero]

/-- What a step of an IDLE block that neither resets nor starts it can change: IGN, the configuration, and the counters if
it is a CLEAR_STATS. -/
theorem step_block_of_idle {s t : State} (h : step s = .next t) (hr : s.hostNow.rst = false) (hi : s.block.st = .idle)
    (hstart : ∀ tw, s.hostNow.access = some tw → decode tw ≠ .start) :
    ∃ clr ign deadline cal thresh,
      t.block = commitCounters clr s.block
        { s.block with ign := ign, cfgDeadline := deadline, cfgCal := cal, cfgThresh := thresh } Incs.zero ∧
      ((∀ tw, s.hostNow.access = some tw → decode tw ≠ .clearStats) → clr = false) := by
  cases ha : s.hostNow.access with
  | none =>
    have e := step_block_of_quiet h hr ha
    rw [quietBlock_eq, Block.cycle, capture_idle _ hi] at e
    exact ⟨false, _, _, _, _, e, fun _ => rfl⟩
  | some tw =>
    have he : exec (decode tw) s = .next t := by simpa only [step, ha] using h
    obtain ⟨ign, deadline, cal, thresh, e⟩ := hostEffect_frame (hstart tw ha) s.block s.block
    exact ⟨_, ign, deadline, cal, thresh, e ▸ exec_block_of_idle he hr hi, fun hc => decide_eq_false (hc tw rfl)⟩

/-! ## The statements -/

/-- Settles O44: each write of an IDLE block is one of the updates above. -/
theorem windowOutsideTheTargetReadsAsBefore : Obligations.WindowOutsideTheTargetReadsAsBefore := by
  unfold Obligations.WindowOutsideTheTargetReadsAsBefore
  intro s t addr hr hi
  refine ⟨fun deadline cal h => ?config, fun thresh h => ?thresh, fun h hne => ?ign, fun h => ?clear, fun h => ?start⟩
  case config =>
    rw [exec_block_of_idle_keepCounters h hr hi (by simp), hostEffect, hostConfig, if_pos hi, readReg_config]
  case thresh =>
    rw [exec_block_of_idle_keepCounters h hr hi (by simp), hostEffect, hostThresh, if_pos hi, readReg_thresh]
  case ign =>
    rcases h with h | h
    · rw [exec_block_of_idle_keepCounters h hr hi (by simp), hostEffect, readReg_setIgn, if_neg hne]
    · rw [exec_block_of_idle_keepCounters h hr hi (by simp), hostEffect, readReg_clearIgn, if_neg hne]
  case clear => exact exec_block_of_idle h hr hi ▸ readReg_clearCounters _ _ _
  case start =>
    rw [exec_block_of_idle_keepCounters h hr hi (by simp), hostEffect, hostStart, if_pos hi, readReg_beginRead]

/-- Settles O57: the seven reserved commands have one effect, and WR STATUS writes IGN alone. -/
theorem ignWritesShowInStatusAlone : Obligations.IgnWritesShowInStatusAlone := by
  unfold Obligations.IgnWritesShowInStatusAlone
  intro s t addr hr hi
  refine ⟨fun cmd i hmem h => ?reserved, fun h => ?clear, fun h => ?keep⟩
  case reserved =>
    have he : i ≠ .clearStats ∧ hostEffect i s.block s.block = setIgn s.block := by
      simp only [List.mem_cons, List.not_mem_nil, or_false] at hmem
      rcases hmem with rfl | rfl | rfl | rfl | rfl | rfl | rfl <;> exact ⟨by simp, rfl⟩
    obtain ⟨hc, he⟩ := he
    rw [exec_block_of_idle_keepCounters h hr hi hc, he, readReg_setIgn]
  case clear => rw [exec_block_of_idle_keepCounters h hr hi (by simp), hostEffect, readReg_clearIgn]
  case keep =>
    rw [exec_block_of_idle_keepCounters h hr hi (by simp)]
    rfl

/-- Settles O50: a block with BUSY = 0 is IDLE, and what a step can change of it is in none of the words named. -/
theorem completedReadStaysReadable : Obligations.CompletedReadStaysReadable := by
  unfold Obligations.CompletedReadStaysReadable
  intro s t h hv hr hstart
  have hi : s.block.st = .idle := by
    simp only [Block.resultsValid, Block.busy, Bool.and_eq_true] at hv
    simpa using hv.1
  obtain ⟨clr, ign, deadline, cal, thresh, e, hclr⟩ := step_block_of_idle h hr hi hstart
  rw [e]
  refine ⟨hv, rfl, rfl, fun _ => rfl, rfl, fun hc => ?_⟩
  rw [hclr hc]
  exact ⟨counterNext_keep _, counterNext_keep _, counterNext_keep _⟩

end Sys2Proof.Machine
end

section
/-! Proofs about the encoding of transactions (30_encoding.md): the decoder against the encoder, the ignored bits, the rows of
the opcode table. The significant bits of a word are its write bit, its selected word and, by these two, a part of its data. -/

namespace Sys2Proof

/-! ## Decoding an encoded operation -/

/-- The word of a well-formed operation decodes to it, one lemma for each row of the table. -/
theorem decode_encode (i : Instr) (h : i.WellFormed) : decode (encode i) = i :=
  match i with
  | .nop => Laws.RoundTrip.nop h
  | .start => Laws.RoundTrip.start h
  | .clearStats => Laws.RoundTrip.clearStats h
  | .cmdReserved03 => Laws.RoundTrip.cmdReserved03 h
  | .cmdReserved04to07 cmd => Laws.RoundTrip.cmdReserved04to07 cmd h
  | .cmdReserved08to0F cmd => Laws.RoundTrip.cmdReserved08to0F cmd h
  | .cmdReserved10to1F cmd => Laws.RoundTrip.cmdReserved10to1F cmd h
  | .cmdReserved20to3F cmd => Laws.RoundTrip.cmdReserved20to3F cmd h
  | .cmdReserved40to7F cmd => Laws.RoundTrip.cmdReserved40to7F cmd h
  | .cmdReserved80toFF cmd => Laws.RoundTrip.cmdReserved80toFF cmd h
  | .wrStatus clearIgn => Laws.RoundTrip.wrStatus clearIgn h
  | .wrConfig deadline calPresent => Laws.RoundTrip.wrConfig deadline calPresent h
  | .wrThresh thresh => Laws.RoundTrip.wrThresh thresh h
  | .wrRo10to1C word => Laws.RoundTrip.wrRo10to1C word h
  | .wrRo20to3C word => Laws.RoundTrip.wrRo20to3C word h
  | .rdCtrl => Laws.RoundTrip.rdCtrl h
  | .rdStatus => Laws.RoundTrip.rdStatus h
  | .rdConfig => Laws.RoundTrip.rdConfig h
  | .rdThresh => Laws.RoundTrip.rdThresh h
  | .rdResult => Laws.RoundTrip.rdResult h
  | .rdLevel => Laws.RoundTrip.rdLevel h
  | .rdNrCnt => Laws.RoundTrip.rdNrCnt h
  | .rdPreCnt => Laws.RoundTrip.rdPreCnt h
  | .rdCkCnt => Laws.RoundTrip.rdCkCnt h
  | .rdParam => Laws.RoundTrip.rdParam h
  | .rdRsvd28 => Laws.RoundTrip.rdRsvd28 h
  | .rdRsvd2C => Laws.RoundTrip.rdRsvd2C h
  | .rdFrame0 => Laws.RoundTrip.rdFrame0 h
  | .rdFrame1 => Laws.RoundTrip.rdFrame1 h
  | .rdFrame2 => Laws.RoundTrip.rdFrame2 h
  | .rdFrame3 => Laws.RoundTrip.rdFrame3 h

/-- Settles O2, by the lemma of each row. -/
theorem decodeEncodeRoundTrip : Obligations.DecodeEncodeRoundTrip := decode_encode

/-! ## The significant bits of a word, by its write bit and its selected word -/

/-- The data bits that mean something in an access to `word` (30_encoding.md R103, R112): those of the mask of its operation,
by `significantBits_decode`. -/
def dataMask (we : Bool) (word : BitVec 4) : Word :=
  if we then
    match word with
    | 0x0#4 => 0xFF#32
    | 0x1#4 => 0x4#32
    | 0x2#4 => 0x1FFFF#32
    | 0x3#4 => 0xFFFF#32
    | _ => 0#32
  else 0#32

/-- The significant bits of every access to a word are its write bit, its `addr[5:2]` and its data mask. -/
def accessMask (we : Bool) (word : BitVec 4) : TransWord := packTW true 0x3C#6 (dataMask we word)

theorem packTW_and_packTW (we we' : Bool) (addr addr' : BitVec 6) (wdata wdata' : Word) :
    packTW we addr wdata &&& packTW we' addr' wdata' = packTW (we && we') (addr &&& addr') (wdata &&& wdata') := by
  have h := BitVec.and_append (x₁ := BitVec.ofBool we ++ addr) (x₂ := BitVec.ofBool we' ++ addr') (y₁ := wdata)
    (y₂ := wdata')
  rw [BitVec.and_append (x₁ := BitVec.ofBool we), BitVec.ofBool_and_ofBool] at h
  exact h

/-- Masking a packed word clears `addr[1:0]` and the data outside the mask. -/
theorem packTW_and_accessMask (we : Bool) (addr : BitVec 6) (wdata : Word) (we' : Bool) (word' : BitVec 4) :
    packTW we addr wdata &&& accessMask we' word' = encodeAt we (addrWord addr) (wdata &&& dataMask we' word') := by
  have haddr : addr &&& 0x3C#6 = (addrWord addr ++ 0#2).cast (rfl : 4 + 2 = 6) := by revert addr; decide
  rw [accessMask, packTW_and_packTW, Bool.and_true, haddr]
  rfl

/-! ## Encoding a decoded word (30_encoding.md R101) -/

/-- A field at the bottom of the data, zero-extended, is the data under a mask of its bits. -/
theorem append_extractLsb'_eq_and (wdata mask : Word) {m n : Nat} (h : m + n = 32)
    (hmask : ∀ k, k < 32 → mask.getLsbD k = decide (k < n)) :
    (0#m ++ wdata.extractLsb' 0 n).cast h = wdata &&& mask := by
  apply BitVec.eq_of_getLsbD_eq
  intro k hk
  rw [BitVec.getLsbD_cast, BitVec.getLsbD_append, BitVec.getLsbD_and, hmask k hk]
  by_cases hn : k < n <;> simp [hn]

theorem statusData_eq_and (wdata : Word) :
    (0#29 ++ BitVec.ofBool (wdata.getLsbD 2) ++ 0#2).cast (rfl : 29 + 1 + 2 = 32) = wdata &&& 0x4#32 := by
  apply BitVec.eq_of_getLsbD_eq
  intro k hk
  have hmask : (0x4#32).getLsbD k = decide (k = 2) := by revert k; decide
  simp only [BitVec.getLsbD_cast, BitVec.getLsbD_append, BitVec.getLsbD_and, BitVec.getLsbD_ofBool, hmask]
  rcases lt_trichotomy k 2 with h | rfl | h
  · simp [h, h.ne]
  · simp
  · simp [h.ne', h.not_gt, show ¬ k - 2 < 1 by omega]

theorem configData_eq_and (wdata : Word) :
    (0#15 ++ BitVec.ofBool (wdata.getLsbD 16) ++ wdata.extractLsb' 0 16).cast (rfl : 15 + 1 + 16 = 32) =
      wdata &&& 0x1FFFF#32 := by
  apply BitVec.eq_of_getLsbD_eq
  intro k hk
  have hmask : (0x1FFFF#32).getLsbD k = decide (k ≤ 16) := by revert k; decide
  simp only [BitVec.getLsbD_cast, BitVec.getLsbD_append, BitVec.getLsbD_and, BitVec.getLsbD_ofBool, hmask]
  rcases lt_trichotomy k 16 with h | rfl | h
  · simp [h, h.le]
  · simp
  · simp [h.not_gt, h.not_ge, show ¬ k - 16 < 1 by omega]

/-- A command is of the row of its code, and its word is a CTRL write with that code. -/
theorem decodeCmd_spec (cmd : BitVec 8) :
    (decodeCmd cmd).WellFormed ∧ encode (decodeCmd cmd) = encodeCmd cmd ∧
      significantBits (decodeCmd cmd) = accessMask true 0x0#4 := by
  revert cmd
  decide

/-- A read decodes to an operation whose word holds the selected word alone. -/
theorem decodeRead_spec (word : BitVec 4) :
    (decodeRead word).WellFormed ∧ encode (decodeRead word) = encodeAt false word 0#32 ∧
      significantBits (decodeRead word) = accessMask false word := by
  revert word
  decide

/-- A write decodes to an operation whose word holds the selected word and the data under its mask. -/
theorem decodeWrite_spec (word : BitVec 4) (wdata : Word) :
    (decodeWrite word wdata).WellFormed ∧
      encode (decodeWrite word wdata) = encodeAt true word (wdata &&& dataMask true word) ∧
      significantBits (decodeWrite word wdata) = accessMask true word := by
  have hro : wdata &&& 0#32 = 0#32 := BitVec.and_zero
  rcases Machine.word_cases word with
    rfl | rfl | rfl | rfl | rfl | rfl | rfl | rfl | rfl | rfl | rfl | rfl | rfl | rfl | rfl | rfl
  · obtain ⟨hwf, henc, hsig⟩ := decodeCmd_spec (wdata.extractLsb' 0 8)
    exact ⟨hwf, henc.trans (congrArg (encodeAt true 0x0#4) (append_extractLsb'_eq_and wdata 0xFF#32 _ (by decide))), hsig⟩
  · exact ⟨rfl, congrArg (encodeAt true 0x1#4) (statusData_eq_and wdata), rfl⟩
  · exact ⟨rfl, congrArg (encodeAt true 0x2#4) (configData_eq_and wdata), rfl⟩
  · exact ⟨rfl, congrArg (encodeAt true 0x3#4) (append_extractLsb'_eq_and wdata 0xFFFF#32 _ (by decide)), rfl⟩
  all_goals exact ⟨rfl, congrArg (encodeAt true _) hro.symm, rfl⟩

/-- Every word decodes to a well-formed operation, whose mask is that of its write bit and selected word, and whose word is
the given one under that mask. -/
theorem decode_spec (tw : TransWord) :
    (decode tw).WellFormed ∧ significantBits (decode tw) = accessMask (twWe tw) (addrWord (twAddr tw)) ∧
      encode (decode tw) = tw &&& significantBits (decode tw) := by
  obtain ⟨we, addr, wdata, rfl⟩ : ∃ we addr wdata, packTW we addr wdata = tw := ⟨_, _, _, packTW_fields tw⟩
  simp only [decode_packTW, twWe_packTW, twAddr_packTW]
  cases we with
  | false =>
    obtain ⟨hwf, henc, hsig⟩ := decodeRead_spec (addrWord addr)
    have hdata : wdata &&& dataMask false (addrWord addr) = 0#32 := BitVec.and_zero
    refine ⟨hwf, hsig, ?_⟩
    rw [if_neg Bool.false_ne_true, hsig, packTW_and_accessMask, hdata, henc]
  | true =>
    obtain ⟨hwf, henc, hsig⟩ := decodeWrite_spec (addrWord addr) wdata
    refine ⟨hwf, hsig, ?_⟩
    rw [if_pos rfl, hsig, packTW_and_accessMask, henc]

/-- Settles O3, by the decoder's two halves, reads and writes. -/
theorem encodeDecodeKeepsSignificantBits : Obligations.EncodeDecodeKeepsSignificantBits := by
  unfold Obligations.EncodeDecodeKeepsSignificantBits
  intro tw
  obtain ⟨hwf, -, henc⟩ := decode_spec tw
  exact ⟨hwf, henc⟩

/-! ## The ignored bits (30_encoding.md R112, 20_memory.md R82) -/

/-- Words that agree under the mask of some access have the same write bit and the same selected word. -/
theorem access_eq_of_and_accessMask_eq {tw tw' : TransWord} {we : Bool} {word : BitVec 4}
    (h : tw &&& accessMask we word = tw' &&& accessMask we word) :
    twWe tw = twWe tw' ∧ addrWord (twAddr tw) = addrWord (twAddr tw') := by
  rw [← packTW_fields tw, ← packTW_fields tw', packTW_and_accessMask, packTW_and_accessMask] at h
  have hwe := congrArg twWe h
  have haddr := congrArg (fun x => addrWord (twAddr x)) h
  simp only [encodeAt, twWe_packTW] at hwe
  simp only [encodeAt, twAddr_packTW, addrWord_append] at haddr
  exact ⟨hwe, haddr⟩

/-- Settles O4: the two words have the same mask, so their operations have the same word, which decodes to one operation. -/
theorem ignoredBitsHaveNoEffect : Obligations.IgnoredBitsHaveNoEffect := by
  unfold Obligations.IgnoredBitsHaveNoEffect
  intro tw tw' h
  obtain ⟨hwf, hmask, henc⟩ := decode_spec tw
  obtain ⟨hwf', hmask', henc'⟩ := decode_spec tw'
  obtain ⟨hwe, hword⟩ := access_eq_of_and_accessMask_eq (hmask ▸ h)
  have hsame : significantBits (decode tw') = significantBits (decode tw) := by rw [hmask', hmask, hwe, hword]
  calc decode tw' = decode (encode (decode tw')) := (decode_encode _ hwf').symm
    _ = decode (encode (decode tw)) := by rw [henc', hsame, ← h, henc]
    _ = decode tw := decode_encode _ hwf

/-! ## The rows of the opcode table (30_encoding.md R102) -/

theorem OpRow.holds_iff (r : OpRow) (tw : TransWord) : r.holds tw = true ↔ tw &&& r.mask = r.pattern := beq_iff_eq

/-- Two different rows ask for different values of the bits that both fix. -/
theorem tableRows_disjoint : ∀ r ∈ tableRows, ∀ r' ∈ tableRows, r.pattern &&& r'.mask = r'.pattern &&& r.mask → r' = r := by
  decide

/-- No word is of two rows. -/
theorem row_unique {r r' : OpRow} {tw : TransWord} (hr : r ∈ tableRows) (hr' : r' ∈ tableRows) (h : r.holds tw = true)
    (h' : r'.holds tw = true) : r' = r := by
  rw [OpRow.holds_iff] at h h'
  apply tableRows_disjoint r hr r' hr'
  rw [← h, ← h', BitVec.and_assoc, BitVec.and_assoc, BitVec.and_comm r.mask]

/-- The word of a well-formed operation is of the row of its mnemonic, one lemma for each row of the table. -/
theorem row_encode (i : Instr) (h : i.WellFormed) : ∃ r ∈ tableRows, r.mnemonic = i.mnemonic ∧ r.holds (encode i) = true :=
  match i with
  | .nop => Laws.RowMatch.nop h
  | .start => Laws.RowMatch.start h
  | .clearStats => Laws.RowMatch.clearStats h
  | .cmdReserved03 => Laws.RowMatch.cmdReserved03 h
  | .cmdReserved04to07 cmd => Laws.RowMatch.cmdReserved04to07 cmd h
  | .cmdReserved08to0F cmd => Laws.RowMatch.cmdReserved08to0F cmd h
  | .cmdReserved10to1F cmd => Laws.RowMatch.cmdReserved10to1F cmd h
  | .cmdReserved20to3F cmd => Laws.RowMatch.cmdReserved20to3F cmd h
  | .cmdReserved40to7F cmd => Laws.RowMatch.cmdReserved40to7F cmd h
  | .cmdReserved80toFF cmd => Laws.RowMatch.cmdReserved80toFF cmd h
  | .wrStatus clearIgn => Laws.RowMatch.wrStatus clearIgn h
  | .wrConfig deadline calPresent => Laws.RowMatch.wrConfig deadline calPresent h
  | .wrThresh thresh => Laws.RowMatch.wrThresh thresh h
  | .wrRo10to1C word => Laws.RowMatch.wrRo10to1C word h
  | .wrRo20to3C word => Laws.RowMatch.wrRo20to3C word h
  | .rdCtrl => Laws.RowMatch.rdCtrl h
  | .rdStatus => Laws.RowMatch.rdStatus h
  | .rdConfig => Laws.RowMatch.rdConfig h
  | .rdThresh => Laws.RowMatch.rdThresh h
  | .rdResult => Laws.RowMatch.rdResult h
  | .rdLevel => Laws.RowMatch.rdLevel h
  | .rdNrCnt => Laws.RowMatch.rdNrCnt h
  | .rdPreCnt => Laws.RowMatch.rdPreCnt h
  | .rdCkCnt => Laws.RowMatch.rdCkCnt h
  | .rdParam => Laws.RowMatch.rdParam h
  | .rdRsvd28 => Laws.RowMatch.rdRsvd28 h
  | .rdRsvd2C => Laws.RowMatch.rdRsvd2C h
  | .rdFrame0 => Laws.RowMatch.rdFrame0 h
  | .rdFrame1 => Laws.RowMatch.rdFrame1 h
  | .rdFrame2 => Laws.RowMatch.rdFrame2 h
  | .rdFrame3 => Laws.RowMatch.rdFrame3 h

/-- The row of an operation looks at significant bits of it only. -/
theorem mask_and_significantBits (i : Instr) :
    ∀ r ∈ tableRows, r.mnemonic = i.mnemonic → r.mask &&& significantBits i = r.mask := by
  cases i <;> dsimp only [Instr.mnemonic, significantBits] <;> decide

/-- Every word is of the row of the operation it decodes to: the row holds of the operation's word, which agrees with the
given one on the bits that the row looks at. -/
theorem row_decode (tw : TransWord) : ∃ r ∈ tableRows, r.holds tw = true ∧ r.mnemonic = (decode tw).mnemonic := by
  obtain ⟨hwf, -, henc⟩ := decode_spec tw
  obtain ⟨r, hr, hname, hholds⟩ := row_encode (decode tw) hwf
  have hmask := mask_and_significantBits (decode tw) r hr hname
  refine ⟨r, hr, ?_, hname⟩
  rw [OpRow.holds_iff] at hholds ⊢
  rw [henc, BitVec.and_assoc, BitVec.and_comm (significantBits _), hmask] at hholds
  exact hholds

/-- Of a write, the data select the row for CTRL only, by the command code. -/
theorem decodeWrite_mnemonic (word : BitVec 4) (wdata wdata' : Word)
    (h : word = 0x0#4 → wdata.extractLsb' 0 8 = wdata'.extractLsb' 0 8) :
    (decodeWrite word wdata).mnemonic = (decodeWrite word wdata').mnemonic := by
  rcases Machine.word_cases word with
    rfl | rfl | rfl | rfl | rfl | rfl | rfl | rfl | rfl | rfl | rfl | rfl | rfl | rfl | rfl | rfl
  · exact congrArg (fun cmd => (decodeCmd cmd).mnemonic) (h rfl)
  all_goals rfl

/-- Settles O5: the row of the decoded operation holds, any two rows are disjoint, and the fields named select the row. -/
theorem everyWordIsOfExactlyOneRow : Obligations.EveryWordIsOfExactlyOneRow := by
  unfold Obligations.EveryWordIsOfExactlyOneRow
  refine ⟨fun tw => ?one, fun tw tw' hwe hword hcmd => ?selected⟩
  case one =>
    obtain ⟨r, hr, hholds, hname⟩ := row_decode tw
    exact ⟨r, hr, hholds, hname, fun r' hr' h' => row_unique hr hr' hholds h'⟩
  case selected =>
    unfold decode
    rw [← hwe, ← hword]
    split_ifs with hw
    · exact decodeWrite_mnemonic _ _ _ (hcmd hw)
    · rfl

/-! ## Written-out words, and the step (30_encoding.md R102, R103) -/

/-- Settles O1, by running the decoder on the fifteen words. -/
theorem writtenOutWordsDecode : Obligations.WrittenOutWordsDecode := by
  unfold Obligations.WrittenOutWordsDecode
  decide

/-- The word that `withFetchWord` presents of an operation is the operation's own: 39 bits fit in 40. -/
theorem ofNat_encode (i : Instr) : BitVec.ofNat 39 ((encode i).toNat % 2 ^ 40) = encode i := by
  have hlt : (encode i).toNat < 2 ^ 39 := (encode i).isLt
  rw [Nat.mod_eq_of_lt (by omega), BitVec.ofNat_toNat, BitVec.setWidth_eq]

namespace Machine

theorem step_of_access {s : State} {tw : TransWord} (h : s.hostNow.access = some tw) : step s = exec (decode tw) s := by
  simp only [step, h]

theorem step_of_no_access {s : State} (h : s.hostNow.access = none) : step s = quietCycle s := by
  simp only [step, h]

/-- Settles O6: of a presented operation, the word on the bus decodes to it. -/
theorem stepRunsTheDecodedTransaction : Obligations.StepRunsTheDecodedTransaction := by
  unfold Obligations.StepRunsTheDecodedTransaction
  refine ⟨fun s tw => step_of_access, fun s => step_of_no_access, fun s i hwf => ?_⟩
  have hbus : (s.withFetchWord 40 (encode i).toNat).hostNow.access = some (encode i) := by
    rw [State.withFetchWord_hostNow, ofNat_encode]
  rw [step_of_access hbus, decode_encode i hwf]

end Machine

end Sys2Proof
end

section
/-! Proofs about the invariant of the block (10_state.md R32 to R42): each part of a cycle keeps it. First what a level can
be, since EVAL records one. -/

namespace Sys2Proof.Machine

/-! ## The segments and the level (42_level_mapping.md R240 to R247) -/

/-- All that `estimate` answers as a level: 0 for an all-zero payload, the clamped raw level for any other without
calibration. -/
theorem estimate_level_cases {norm : AvgNorm} {payload : List Byte} {cal : Bool} {L : Rat} {lvl base : Nat} {az g : Bool}
    (h : estimate norm payload cal = .level L lvl base az g) :
    ((∀ v ∈ payload, v = 0#8) ∧ L = 0 ∧ lvl = 0 ∧ base = 0 ∧ az = true ∧ g = false) ∨
    ((∃ v ∈ payload, v ≠ 0#8) ∧ cal = false ∧ lvl = levelSegment payload ∧ base = baseSegment payload ∧ az = false ∧
      g = (levelRatio norm payload base lvl).2 ∧
      L = clampLevel (rawLevel (levelRatio norm payload base lvl).1 base lvl)) := by
  unfold estimate at h
  split_ifs at h with hz hc
  · cases h
    exact .inl ⟨by simpa using hz, rfl, rfl, rfl, rfl, rfl⟩
  · cases h
    exact .inr ⟨by simpa using hz, by simpa using hc, rfl, rfl, rfl, rfl, rfl⟩

theorem levelRatio_guard (norm : AvgNorm) (payload : List Byte) (base lv : Nat) :
    (levelRatio norm payload base lv).2 = tailGuard payload lv := by
  unfold levelRatio
  cases tailGuard payload lv <;> rfl

theorem clampLevel_mem (raw : Rat) : 0 ≤ clampLevel raw ∧ clampLevel raw ≤ 100 :=
  ⟨le_min (le_max_right _ _) (by norm_num), min_le_right _ _⟩

theorem levelBits_toNat_le {L : Rat} (h : L ≤ 100) : (levelBits L).toNat ≤ 25600 := by
  have hf : (L * 256).floor < 25601 := Rat.floor_lt_iff.mpr (by push_cast; linarith)
  have hm : (levelBits L).toNat ≤ (L * 256).floor.toNat := by
    rw [levelBits, BitVec.toNat_ofNat]
    exact Nat.mod_le _ _
  omega

theorem levelBits_zero : levelBits 0 = 0#15 := by
  rw [levelBits, zero_mul]
  rfl

/-- No segment below `levelSegment` is nonzero. -/
theorem levelSegment_le {payload : List Byte} {i : Nat} (hi : i < payload.length) (h : payload[i] ≠ 0#8) :
    levelSegment payload ≤ i := by
  by_contra hlt
  have hzero : segmentNonzero payload[i] = false := List.not_of_lt_findIdx (Nat.not_le.mp hlt)
  exact h (by simpa [segmentNonzero] using hzero)

/-- `baseSegment` is the index of a nonzero segment. -/
theorem baseSegment_nonzero {payload : List Byte} (h : ∃ v ∈ payload, v ≠ 0#8) :
    ∃ hlt : baseSegment payload < payload.length, payload[baseSegment payload] ≠ 0#8 := by
  have hrev : payload.reverse.findIdx segmentNonzero < payload.reverse.length :=
    List.findIdx_lt_length_of_exists (by simpa [segmentNonzero] using h)
  have hlt : baseSegment payload < payload.length := by
    rw [List.length_reverse] at hrev
    unfold baseSegment
    omega
  have hnz : segmentNonzero (payload.reverse[payload.reverse.findIdx segmentNonzero]) = true := List.findIdx_getElem
  rw [List.getElem_reverse] at hnz
  exact ⟨hlt, bne_iff_ne.mp hnz⟩

/-- `Lv ≤ B < N_SEG` (30_encoding.md R111). -/
theorem levelSegment_le_baseSegment {payload : List Byte} (h : ∃ v ∈ payload, v ≠ 0#8) :
    levelSegment payload ≤ baseSegment payload ∧ baseSegment payload < payload.length := by
  obtain ⟨hlt, hnz⟩ := baseSegment_nonzero h
  exact ⟨levelSegment_le hlt hnz, hlt⟩

/-- A tail that reaches a nonzero segment trips no guard. -/
theorem tailGuard_eq_false {payload : List Byte} {lv i : Nat} (hlt : lv < i) (hi : i < payload.length)
    (hnz : payload[i] ≠ 0#8) : tailGuard payload lv = false := by
  have hmem : payload[i] ∈ tail payload lv :=
    List.mem_drop_iff_getElem.mpr ⟨i - (lv + 1), by omega, by congr 1; omega⟩
  have hsum : payload[i].toNat ≤ tailSum payload lv := List.le_sum_of_mem (List.mem_map_of_mem hmem)
  have hpos : payload[i].toNat ≠ 0 := fun h0 => hnz (BitVec.eq_of_toNat_eq h0)
  have hcount : tailCount payload lv ≠ 0 := by unfold tailCount; omega
  have hsum0 : tailSum payload lv ≠ 0 := by omega
  simp [tailGuard, hcount, hsum0]

/-- The guard means one nonzero segment (42_level_mapping.md R245). -/
theorem levelSegment_eq_baseSegment_of_guard {payload : List Byte} (h : ∃ v ∈ payload, v ≠ 0#8)
    (hg : tailGuard payload (levelSegment payload) = true) : levelSegment payload = baseSegment payload := by
  obtain ⟨hlt, hnz⟩ := baseSegment_nonzero h
  by_contra hne
  have hlt' : levelSegment payload < baseSegment payload := lt_of_le_of_ne (levelSegment_le hlt hnz) hne
  rw [tailGuard_eq_false hlt' hlt hnz] at hg
  cases hg

/-- What a level holds with its diagnostics, whatever the payload (30_encoding.md R111, 42_level_mapping.md R245, R247, R250). -/
theorem estimate_level_bounds {norm : AvgNorm} {payload : List Byte} {cal : Bool} {L : Rat} {lvl base : Nat} {az g : Bool}
    (hlen : 0 < payload.length) (h : estimate norm payload cal = .level L lvl base az g) :
    L ≤ 100 ∧ lvl ≤ base ∧ base < payload.length ∧ (az = true → L = 0 ∧ base = 0 ∧ g = false) ∧
      (g = true → lvl = base) := by
  rcases estimate_level_cases h with ⟨-, rfl, rfl, rfl, rfl, rfl⟩ | ⟨hnz, -, rfl, rfl, rfl, hg, rfl⟩
  · exact ⟨by norm_num, le_rfl, hlen, fun _ => ⟨rfl, rfl, rfl⟩, nofun⟩
  · obtain ⟨hle, hlt⟩ := levelSegment_le_baseSegment hnz
    rw [levelRatio_guard] at hg
    exact ⟨(clampLevel_mem _).2, hle, hlt, nofun, fun h => levelSegment_eq_baseSegment_of_guard hnz (hg ▸ h)⟩

theorem validate_ok_length {P : Params} {frame payload : List Byte} (h : validate P frame = .ok payload) :
    payload.length = P.nseg := by
  unfold validate at h
  split_ifs at h with hshort
  cases h
  simp only [payloadOf, List.length_drop, List.length_take, Params.nseg]
  omega

/-! ## The codes of the outcomes (30_encoding.md R104) -/

theorem OutcomeCode.code_toNat_le (c : OutcomeCode) : c.code.toNat ≤ 5 := by
  cases c <;> decide

theorem OutcomeCode.code_eq_none_iff (c : OutcomeCode) : c.code = OutcomeCode.none.code ↔ c = .none := by
  cases c <;> decide

/-! ## The parts of a cycle keep the invariant -/

section Parts

variable {P : Params} {s n : Block}

/-- The invariant does not look at IGN, CAL_PRESENT, THRESH or the counters. -/
theorem Block.Inv.withUnread (h : n.Inv P) (ign cal : Bool) (thresh : Ticks) (nr pre ck : BitVec 32) :
    ({ n with ign := ign, cfgCal := cal, cfgThresh := thresh, nrCnt := nr, preCnt := pre, ckCnt := ck } : Block).Inv P :=
  { h with }

theorem Block.Inv.setIgn (h : n.Inv P) : (setIgn n).Inv P := h.withUnread ..

theorem Block.Inv.clearIgnIf (h : n.Inv P) (bit : Bool) : (clearIgnIf bit n).Inv P := h.withUnread ..

theorem Block.Inv.commitCounters (h : n.Inv P) (clr : Bool) (inc : Incs) : (commitCounters clr s n inc).Inv P :=
  h.withUnread ..

theorem frameBit_map_zero (fb : List Byte) (q : Nat) : frameBit (fb.map (fun _ => 0#8)) q = false := by
  rw [frameBit, List.map_const', List.getD_eq_getElem?_getD, List.getElem?_getD_replicate_default_eq]
  exact BitVec.getLsbD_zero

/-- A read begins with no pulse, no wait, no outcome and a zero frame buffer (43_host_commands.md R283). -/
theorem Block.Inv.beginRead (hP : P.Legal) (h : n.Inv P) : (beginRead n).Inv P where
  frameLength := by simpa using h.frameLength
  pulseBound := by simp
  pulseLeft _ := by
    have hpulses : 0 < 8 * P.frameBytes := by omega
    simpa [Params.npulse] using hpulses
  evalComplete := by simp
  waitBound _ := by simp [Block.waitLimit]
  codeBound := by simp
  doneCode := by simp [OutcomeCode.code]
  busyNotDone := by simp
  onlyOkHasLevel := by simp
  levelBound := by simp
  segmentOrder := by
    have hseg : 0 < P.nseg := Nat.zero_lt_of_lt h.segmentOrder.2
    simpa using hseg
  allZero := by simp
  guarded := by simp
  unwritten q _ _ := frameBit_map_zero n.fb q

/-- A read ends in a failure without level or diagnostics (41_frame_validation.md R205). -/
theorem Block.Inv.finishFailed (h : n.Inv P) {code : OutcomeCode} (hnone : code ≠ .none) (hok : code ≠ .ok) :
    (finishFailed code n).Inv P where
  frameLength := h.frameLength
  pulseBound := h.pulseBound
  pulseLeft := by simp [Machine.finishFailed]
  evalComplete := by simp [Machine.finishFailed]
  waitBound := by simp [Machine.finishFailed]
  codeBound := code.code_toNat_le
  doneCode := iff_of_true rfl (mt code.code_eq_none_iff.mp hnone)
  busyNotDone := by simp [Machine.finishFailed]
  onlyOkHasLevel _ := by simp [Machine.finishFailed, hok]
  levelBound := by simp [Machine.finishFailed, hok]
  segmentOrder := by
    have hseg : 0 < P.nseg := Nat.zero_lt_of_lt h.segmentOrder.2
    simpa [Machine.finishFailed, hok] using hseg
  allZero := by simp [Machine.finishFailed, hok]
  guarded := by simp [Machine.finishFailed, hok]
  unwritten := h.unwritten

/-- A read ends in OK with a level that meets its bounds (41_frame_validation.md R205, 42_level_mapping.md R247). -/
theorem Block.Inv.finishOk (hP : P.Legal) (h : n.Inv P) {L : Rat} {lvl base : Nat} {az g : Bool} (hL : L ≤ 100)
    (hle : lvl ≤ base) (hbase : base < P.nseg) (haz : az = true → L = 0 ∧ base = 0 ∧ g = false)
    (hg : g = true → lvl = base) : (finish .ok L lvl base az g n).Inv P where
  frameLength := h.frameLength
  pulseBound := h.pulseBound
  pulseLeft := by simp
  evalComplete := by simp
  waitBound := by simp
  codeBound := by simp [OutcomeCode.code]
  doneCode := by simp [OutcomeCode.code]
  busyNotDone := by simp
  onlyOkHasLevel hne := absurd rfl hne
  levelBound := by simpa using levelBits_toNat_le hL
  segmentOrder := by
    have hwidth : base < 2 ^ 4 := by
      unfold Params.nseg at hbase
      omega
    rw [finish_resLvl, finish_resBase, if_pos rfl, if_pos rfl, BitVec.toNat_ofNat, BitVec.toNat_ofNat,
      Nat.mod_eq_of_lt hwidth, Nat.mod_eq_of_lt (hle.trans_lt hwidth)]
    exact ⟨hle, hbase⟩
  allZero ht := by
    obtain ⟨rfl, rfl, rfl⟩ := haz ht
    exact ⟨levelBits_zero, rfl, rfl⟩
  guarded ht := by rw [finish_resLvl, finish_resBase, hg ht]
  unwritten := h.unwritten

/-- EVAL ends the read with an outcome that fits its level and diagnostics (41_frame_validation.md R204). -/
theorem Block.Inv.evalStep (hP : P.Legal) (h : n.Inv P) : (evalStep P n).1.Inv P := by
  rcases evalStep_cases P n with ⟨code, hnone, hok, e⟩ | ⟨payload, L, lvl, base, az, g, hv, he, e⟩
  · rw [e]
    exact h.finishFailed hnone hok
  · have hlen := validate_ok_length hv
    have hseg : 0 < P.nseg := Nat.zero_lt_of_lt h.segmentOrder.2
    obtain ⟨hL, hle, hbase, haz, hg⟩ := estimate_level_bounds (hlen ▸ hseg) he
    rw [e]
    exact h.finishOk hP hL hle (hlen ▸ hbase) haz hg

/-- The end of a pulse: its bit is the only one written, and EVAL is entered with the last (40_pulse_capture.md R157, R159). -/
theorem Block.Inv.endPulse (hP : P.Legal) (h : n.Inv P) (hst : n.st = .measureLow) : (endPulse P n).Inv P := by
  have hpulse : n.p.toNat < P.npulse := h.pulseLeft (.inr hst)
  have hsize : P.npulse = 8 * P.frameBytes := rfl
  have hp : (n.p + 1#8).toNat = n.p.toNat + 1 := by
    rw [BitVec.toNat_add, BitVec.toNat_ofNat]
    omega
  obtain ⟨hw, -⟩ := h.waitBound (by simp [hst])
  have hdone : n.done = false := h.busyNotDone (by simp [hst])
  exact
    { frameLength := by simpa using h.frameLength
      pulseBound := by rw [endPulse_p, hp]; exact hpulse
      pulseLeft := by
        rw [endPulse_st, endPulse_p, hp]
        split_ifs with hlast
        · simp
        · exact fun _ => by omega
      evalComplete := by
        rw [endPulse_st, endPulse_p, hp]
        split_ifs with hlast
        · exact fun _ => hlast
        · simp
      waitBound := fun _ => ⟨hw, by simp [Block.waitLimit]⟩
      codeBound := h.codeBound
      doneCode := h.doneCode
      busyNotDone := fun _ => hdone
      onlyOkHasLevel := h.onlyOkHasLevel
      levelBound := h.levelBound
      segmentOrder := h.segmentOrder
      allZero := h.allZero
      guarded := h.guarded
      unwritten := fun q hq hlt => by
        rw [endPulse_p, hp] at hq
        rw [endPulse_fb, frameBit_placeBit _ _ _ _ (by rw [h.frameLength]; omega), if_neg (by omega)]
        exact h.unwritten q (by omega) hlt }

/-- A tick below the deadline keeps a count below the wait's limit (40_pulse_capture.md R153). -/
theorem toNat_succ_lt_waitLimit {count : Ticks} (h : count.toNat + 1 < n.cfgDeadline.toNat) :
    (count + 1#16).toNat < n.waitLimit := by
  have hlt := n.cfgDeadline.isLt
  rw [BitVec.toNat_add, BitVec.toNat_ofNat, Block.waitLimit]
  omega

/-- The capture part of a cycle keeps the invariant, one case for each thing it can do. -/
theorem Block.Inv.capture (hP : P.Legal) (h : n.Inv P) (e : EnvPins) : (capture P n e).1.Inv P := by
  rcases capture_cases P n e with ⟨hc, -⟩ | ⟨hst, -, hc⟩ | ⟨hst, -, -, ht, hc⟩ | ⟨hst, -, hc⟩ | ⟨hst, -, -, ht, hc⟩ |
    ⟨-, -, hc⟩ | ⟨-, hc⟩ <;> rw [hc]
  · exact h
  · obtain ⟨-, hwait⟩ := h.waitBound (by simp [hst])
    exact
      { h with
        pulseLeft := fun _ => h.pulseLeft (.inl hst)
        evalComplete := nofun
        waitBound := fun _ => ⟨by simp [Block.waitLimit], hwait⟩
        busyNotDone := fun _ => h.busyNotDone (by simp [hst]) }
  · exact { h with waitBound := fun hne => ⟨(h.waitBound hne).1, toNat_succ_lt_waitLimit ht⟩ }
  · exact h.endPulse hP hst
  · exact { h with waitBound := fun hne => ⟨toNat_succ_lt_waitLimit ht, (h.waitBound hne).2⟩ }
  · exact h.finishFailed (by decide) (by decide)
  · exact h.evalStep hP

theorem Block.Inv.hostStart (hP : P.Legal) (h : n.Inv P) : (hostStart s n).Inv P := by
  unfold Machine.hostStart
  split_ifs
  · exact h.beginRead hP
  · exact h.setIgn

/-- CONFIG is written on an IDLE block only, in which the waits are not bounded (43_host_commands.md R286, log 7). -/
theorem Block.Inv.hostConfig (h : n.Inv P) (hidle : s.st = .idle → n.st = .idle) (deadline : Ticks) (cal : Bool) :
    (hostConfig deadline cal s n).Inv P := by
  unfold Machine.hostConfig
  split_ifs with hs
  · exact { h with waitBound := fun hne => absurd (hidle hs) hne }
  · exact h.setIgn

theorem Block.Inv.hostThresh (h : n.Inv P) (thresh : Ticks) : (hostThresh thresh s n).Inv P := by
  unfold Machine.hostThresh
  split_ifs
  · exact h.withUnread ..
  · exact h.setIgn

/-- The effect of any transaction keeps the invariant, on a captured block that left IDLE no sooner than its start. -/
theorem Block.Inv.hostEffect (hP : P.Legal) (h : n.Inv P) (hidle : s.st = .idle → n.st = .idle) (i : Instr) :
    (hostEffect i s n).Inv P := by
  cases i with
  | start => exact h.hostStart hP
  | cmdReserved03 | cmdReserved04to07 | cmdReserved08to0F | cmdReserved10to1F | cmdReserved20to3F | cmdReserved40to7F
  | cmdReserved80toFF => exact h.setIgn
  | wrStatus clearIgn => exact h.clearIgnIf clearIgn
  | wrConfig deadline cal => exact h.hostConfig hidle deadline cal
  | wrThresh thresh => exact h.hostThresh thresh
  | _ => exact h

/-- A cycle keeps the invariant if its host effect does, on a captured block that left IDLE no sooner than its start. -/
theorem Block.Inv.cycle (hP : P.Legal) (h : s.Inv P) {host : Block → Block → Block}
    (hhost : ∀ n : Block, n.Inv P → (s.st = .idle → n.st = .idle) → (host s n).Inv P) (clr : Bool) (e : EnvPins) :
    (s.cycle P host clr e).Inv P := by
  have hidle : s.st = .idle → (Machine.capture P s e).1.st = .idle := fun hi => by rw [capture_idle P hi, hi]
  exact (hhost _ (h.capture hP e) hidle).commitCounters clr _

end Parts

/-- Settles O46: a reset meets the invariant, and without one the cycle keeps it, whatever the host presents. -/
theorem everyStepKeepsTheInvariant : Obligations.EveryStepKeepsTheInvariant := by
  unfold Obligations.EveryStepKeepsTheInvariant
  intro s t h hstep
  have hP := params_legal.1
  unfold State.Inv at h ⊢
  by_cases hr : s.hostNow.rst = true
  · rw [step_block_of_reset hstep hr]
    exact Block.reset_inv Config.params hP
  · have hr' : s.hostNow.rst = false := by simpa using hr
    cases ha : s.hostNow.access with
    | none =>
      rw [step_block_of_quiet hstep hr' ha, quietBlock_eq]
      exact h.cycle hP (fun n hn _ => hn) false s.envNow
    | some tw =>
      rw [step_block_of_access hstep hr' ha]
      exact h.cycle hP (fun n hn hidle => hn.hostEffect hP hidle (decode tw)) _ s.envNow

end Sys2Proof.Machine
end

section
/-! Proofs about the capture (40_pulse_capture.md): what the capture part does in each state, the cycle of a block with a read
in flight, and the step as the cycle over the ports. -/

namespace Sys2Proof.Machine

/-! ## The two waits (40_pulse_capture.md R151 to R153)

Each wait lasts while the line stays at its level and counts the ticks meanwhile: WAIT_HIGH the high ones in `t`, MEASURE_LOW
the low ones in `w`. -/

/-- The capture state that waits for the line to leave `level`. -/
def waitState (level : Bool) : CapState := if level then .waitHigh else .measureLow

/-- The count of the wait for the line to leave `level`. -/
def Block.waitCount (level : Bool) (b : Block) : Ticks := if level then b.t else b.w

/-- The block with another count of the wait for the line to leave `level`. -/
def Block.setCount (level : Bool) (c : Ticks) (b : Block) : Block := if level then { b with t := c } else { b with w := c }

@[simp] theorem setCount_st (level : Bool) (c : Ticks) (b : Block) : (b.setCount level c).st = b.st := by cases level <;> rfl
@[simp] theorem setCount_p (level : Bool) (c : Ticks) (b : Block) : (b.setCount level c).p = b.p := by cases level <;> rfl
@[simp] theorem setCount_fb (level : Bool) (c : Ticks) (b : Block) : (b.setCount level c).fb = b.fb := by cases level <;> rfl
@[simp] theorem setCount_cfgDeadline (level : Bool) (c : Ticks) (b : Block) :
    (b.setCount level c).cfgDeadline = b.cfgDeadline := by cases level <;> rfl
@[simp] theorem setCount_waitCount (level : Bool) (c : Ticks) (b : Block) : (b.setCount level c).waitCount level = c := by
  cases level <;> rfl

theorem waitState_ne_idle (level : Bool) : waitState level ≠ .idle := by cases level <;> decide

/-! ## The capture part, state by state -/

section Capture

variable (P : Params) {b : Block} {e : EnvPins}

/-- A wait goes on without a tick, and a tick is counted or, at the deadline, ends the read (R151 to R153). -/
theorem capture_wait {level : Bool} (hst : b.st = waitState level) (hr : e.resp = level) :
    capture P b e =
      if e.usTick then
        if b.cfgDeadline.toNat ≤ (b.waitCount level).toNat + 1 then (finishFailed .noResponse b, OutcomeCode.noResponse.incs)
        else (b.setCount level (b.waitCount level + 1#16), Incs.zero)
      else (b, Incs.zero) := by
  cases level <;>
    simp [capture, hst, waitState, waitHighStep, measureLowStep, hr, deadlineReached, Block.waitCount, Block.setCount]

/-- The first low sample begins a measurement (R151). -/
theorem capture_waitHigh_low (hst : b.st = .waitHigh) (hr : e.resp = false) :
    capture P b e = ({ b with st := .measureLow, w := 0#16 }, Incs.zero) := by
  simp [capture, hst, waitHighStep, hr]

/-- The first high sample ends a pulse (R152). -/
theorem capture_measureLow_high (hst : b.st = .measureLow) (hr : e.resp = true) :
    capture P b e = (endPulse P b, Incs.zero) := by
  simp [capture, hst, measureLowStep, hr]

theorem capture_eval (hst : b.st = .eval) : capture P b e = evalStep P b := by simp [capture, hst]

end Capture

/-! ## The next pulse, and the next count -/

theorem endPulse_p_toNat {P : Params} (hP : P.Legal) {b : Block} (hp : b.p.toNat < P.npulse) :
    (endPulse P b).p.toNat = b.p.toNat + 1 := by
  have hsize : P.npulse = 8 * P.frameBytes := rfl
  rw [endPulse_p, BitVec.toNat_add, BitVec.toNat_ofNat]
  omega

/-- A count below a deadline has a next one. -/
theorem toNat_succ_of_lt {count deadline : Ticks} (h : count.toNat + 1 < deadline.toNat) :
    (count + 1#16).toNat = count.toNat + 1 := by
  have hwidth := deadline.isLt
  rw [BitVec.toNat_add, BitVec.toNat_ofNat]
  omega

/-! ## A read ended, and what the capture part keeps -/

/-- The read has ended, with one of the outcomes 1 to 5 (30_encoding.md R104). -/
def Block.Ended (b : Block) : Prop := b.st = .idle ∧ b.done = true ∧ 1 ≤ b.resCode.toNat ∧ b.resCode.toNat ≤ 5

theorem finish_ended {code : OutcomeCode} (h : code ≠ .none) (L : Rat) (lvl base : Nat) (az g : Bool) (n : Block) :
    (finish code L lvl base az g n).Ended := by
  have hcode : 1 ≤ code.code.toNat ∧ code.code.toNat ≤ 5 := by revert h; cases code <;> decide
  exact ⟨rfl, rfl, hcode⟩

/-- EVAL ends the read, whatever the frame (41_frame_validation.md R204). -/
theorem evalStep_ended (P : Params) (b : Block) : (evalStep P b).1.Ended := by
  rcases evalStep_cases P b with ⟨code, hnone, -, e⟩ | ⟨payload, L, lvl, base, az, g, -, -, e⟩ <;> rw [e]
  · exact finish_ended hnone ..
  · exact finish_ended (by decide) ..

/-- The capture part of a read in flight leaves it in flight or ends it (40_pulse_capture.md R150, R159). -/
theorem capture_busy_or_ended (P : Params) {b : Block} (hb : b.st ≠ .idle) (e : EnvPins) :
    (capture P b e).1.st ≠ .idle ∨ (capture P b e).1.Ended := by
  rcases capture_cases P b e with
    ⟨h, -⟩ | ⟨-, -, h⟩ | ⟨-, -, -, -, h⟩ | ⟨-, -, h⟩ | ⟨-, -, -, -, h⟩ | ⟨-, -, h⟩ | ⟨-, h⟩ <;> rw [h]
  · exact .inl hb
  · exact .inl (by simp)
  · exact .inl hb
  · exact .inl (by rw [endPulse_st]; split_ifs <;> decide)
  · exact .inl hb
  · exact .inr (finish_ended (by decide) ..)
  · exact .inr (evalStep_ended P b)

/-- The capture part never writes the configuration (10_state.md R38 to R40). -/
theorem capture_keeps_config (P : Params) (b : Block) (e : EnvPins) :
    (capture P b e).1.cfgDeadline = b.cfgDeadline ∧ (capture P b e).1.cfgCal = b.cfgCal ∧
      (capture P b e).1.cfgThresh = b.cfgThresh := by
  rcases capture_cases P b e with
    ⟨h, -⟩ | ⟨-, -, h⟩ | ⟨-, -, -, -, h⟩ | ⟨-, -, h⟩ | ⟨-, -, -, -, h⟩ | ⟨-, -, h⟩ | ⟨-, h⟩ <;> rw [h]
  case inr.inr.inr.inr.inr.inr =>
    rcases evalStep_cases P b with ⟨code, -, -, he⟩ | ⟨payload, L, lvl, base, az, g, -, -, he⟩ <;> rw [he] <;>
      exact ⟨rfl, rfl, rfl⟩
  all_goals exact ⟨rfl, rfl, rfl⟩

/-! ## The cycle of a block with a read in flight -/

/-- `b` is `n` but for IGN and the counters, which are all that the host can write while a read is in flight. -/
def Block.CapturedAs (b n : Block) : Prop :=
  ∃ ign nr pre ck, b = { n with ign := ign, nrCnt := nr, preCnt := pre, ckCnt := ck }

theorem Block.CapturedAs.refl (b : Block) : b.CapturedAs b := ⟨_, _, _, _, rfl⟩

theorem Block.CapturedAs.trans {b n m : Block} (h : b.CapturedAs n) (h' : n.CapturedAs m) : b.CapturedAs m := by
  obtain ⟨ign, nr, pre, ck, rfl⟩ := h
  obtain ⟨ign', nr', pre', ck', rfl⟩ := h'
  exact ⟨_, _, _, _, rfl⟩

/-- While a read is in flight a cycle is its capture part, whatever the host presents (70_reset_and_hazards.md R366, R370). -/
theorem cyclePorts_busy (P : Params) {b : Block} {inp : Inputs} (hr : inp.rst = false) (hb : b.st ≠ .idle) :
    (cyclePorts P b inp).CapturedAs (capture P b { resp := inp.resp, usTick := inp.usTick }).1 := by
  obtain ⟨ign, e⟩ := hostPart_busy b inp (capture P b { resp := inp.resp, usTick := inp.usTick }).1 hr hb
  rw [cyclePorts_noReset P b inp hr, e]
  exact ⟨ign, _, _, _, rfl⟩

section CapturedAs

variable {b n : Block} (h : b.CapturedAs n)
include h

theorem Block.CapturedAs.st : b.st = n.st := by obtain ⟨ign, nr, pre, ck, rfl⟩ := h; rfl
theorem Block.CapturedAs.p : b.p = n.p := by obtain ⟨ign, nr, pre, ck, rfl⟩ := h; rfl
theorem Block.CapturedAs.w : b.w = n.w := by obtain ⟨ign, nr, pre, ck, rfl⟩ := h; rfl
theorem Block.CapturedAs.t : b.t = n.t := by obtain ⟨ign, nr, pre, ck, rfl⟩ := h; rfl
theorem Block.CapturedAs.fb : b.fb = n.fb := by obtain ⟨ign, nr, pre, ck, rfl⟩ := h; rfl
theorem Block.CapturedAs.done : b.done = n.done := by obtain ⟨ign, nr, pre, ck, rfl⟩ := h; rfl
theorem Block.CapturedAs.resCode : b.resCode = n.resCode := by obtain ⟨ign, nr, pre, ck, rfl⟩ := h; rfl
theorem Block.CapturedAs.config : b.cfgDeadline = n.cfgDeadline ∧ b.cfgCal = n.cfgCal ∧ b.cfgThresh = n.cfgThresh := by
  obtain ⟨ign, nr, pre, ck, rfl⟩ := h
  exact ⟨rfl, rfl, rfl⟩
theorem Block.CapturedAs.ended (hn : n.Ended) : b.Ended := by obtain ⟨ign, nr, pre, ck, rfl⟩ := h; exact hn

end CapturedAs

/-- A cycle without reset of a read in flight keeps the configuration (40_pulse_capture.md R163). -/
theorem cyclePorts_keeps_config (P : Params) {b : Block} {inp : Inputs} (hr : inp.rst = false) (hb : b.st ≠ .idle) :
    (cyclePorts P b inp).cfgDeadline = b.cfgDeadline ∧ (cyclePorts P b inp).cfgCal = b.cfgCal ∧
      (cyclePorts P b inp).cfgThresh = b.cfgThresh := by
  obtain ⟨hdeadline, hcal, hthresh⟩ := capture_keeps_config P b { resp := inp.resp, usTick := inp.usTick }
  obtain ⟨hdeadline', hcal', hthresh'⟩ := (cyclePorts_busy P hr hb).config
  exact ⟨hdeadline'.trans hdeadline, hcal'.trans hcal, hthresh'.trans hthresh⟩

/-- A cycle without reset of a read in flight leaves it in flight or ends it. -/
theorem cyclePorts_busy_or_ended (P : Params) {b : Block} {inp : Inputs} (hr : inp.rst = false) (hb : b.st ≠ .idle) :
    (cyclePorts P b inp).st ≠ .idle ∨ (cyclePorts P b inp).Ended := by
  have hc := cyclePorts_busy P hr hb
  rcases capture_busy_or_ended P hb { resp := inp.resp, usTick := inp.usTick } with h | h
  · exact .inl (hc.st ▸ h)
  · exact .inr (hc.ended h)

/-! ## The step over the ports (40_pulse_capture.md R150, 43_host_commands.md R281, R290) -/

/-- The effect of a write is `HostWrite`'s, at any byte address and data. -/
theorem hostWrite_eq_hostEffect (s n : Block) (addr : BitVec 6) (wdata : Word) :
    hostWrite s n addr wdata =
      (hostEffect (decodeWrite (addrWord addr) wdata) s n, decide (decodeWrite (addrWord addr) wdata = .clearStats)) := by
  unfold hostWrite
  generalize addrWord addr = word
  rcases word_cases word with rfl | rfl | rfl | rfl | rfl | rfl | rfl | rfl | rfl | rfl | rfl | rfl | rfl | rfl | rfl | rfl
  · generalize hcmd : wdata.extractLsb' 0 8 = cmd
    have he : decodeWrite 0x0#4 wdata = decodeCmd cmd := congrArg decodeCmd hcmd
    rw [he]
    simp only [decodeCmd]
    split_ifs <;> rfl
  all_goals rfl

theorem exec_decodeCmd (cmd : BitVec 8) (s : State) :
    exec (decodeCmd cmd) s = busCycle (hostEffect (decodeCmd cmd)) (decide (decodeCmd cmd = .clearStats)) none s := by
  unfold decodeCmd
  split_ifs <;> rfl

/-- A write puts nothing on `bus_rdata`. -/
theorem exec_decodeWrite (word : BitVec 4) (wdata : Word) (s : State) :
    exec (decodeWrite word wdata) s =
      busCycle (hostEffect (decodeWrite word wdata)) (decide (decodeWrite word wdata = .clearStats)) none s := by
  rcases word_cases word with rfl | rfl | rfl | rfl | rfl | rfl | rfl | rfl | rfl | rfl | rfl | rfl | rfl | rfl | rfl | rfl
  · exact exec_decodeCmd (wdata.extractLsb' 0 8) s
  all_goals rfl

/-- A read puts `ReadReg`'s word on `bus_rdata`. -/
theorem exec_decodeRead (addr : BitVec 6) (s : State) :
    exec (decodeRead (addrWord addr)) s = readCycle (readReg Config.params s.block addr) s := by
  unfold readReg
  generalize addrWord addr = word
  rcases word_cases word with rfl | rfl | rfl | rfl | rfl | rfl | rfl | rfl | rfl | rfl | rfl | rfl | rfl | rfl | rfl | rfl <;>
    rfl

/-- A machine's cycle is the cycle over its ports, if its host effect and its clear are those of `HostWrite`. -/
theorem busCycle_eq_cyclePorts {host : Block → Block → Block} {clr : Bool} (rdata : Option Word) (s : State)
    (h : ∀ n, (host s.block n, clr) =
      if s.inputsNow.busEn && s.inputsNow.busWe then hostWrite s.block n s.inputsNow.busAddr s.inputsNow.busWdata
      else (n, false)) :
    busCycle host clr rdata s = .next (s.nextCycle (cyclePorts Config.params s.block s.inputsNow) rdata) := by
  unfold busCycle cyclePorts
  simp only [← h]
  rfl

/-- Settles O7: without a transaction, with a write and with a read. -/
theorem stepIsTheCycleOverThePorts : Obligations.StepIsTheCycleOverThePorts := by
  unfold Obligations.StepIsTheCycleOverThePorts
  intro s
  cases ha : s.hostNow.access with
  | none =>
    have hin : s.inputsNow.busEn = false := by simp [State.inputsNow, ha]
    rw [step_of_no_access ha, quietCycle, busCycle_eq_cyclePorts none s (fun n => by simp [hin, hostSkip])]
    simp [rdataPorts, hin]
  | some tw =>
    have hen : s.inputsNow.busEn = true := by simp [State.inputsNow, ha]
    have hwe : s.inputsNow.busWe = twWe tw := by simp [State.inputsNow, ha]
    have haddr : s.inputsNow.busAddr = twAddr tw := by simp [State.inputsNow, ha]
    have hdata : s.inputsNow.busWdata = twWdata tw := by simp [State.inputsNow, ha]
    rw [step_of_access ha, decode]
    cases hw : twWe tw with
    | true =>
      rw [if_pos rfl, exec_decodeWrite,
        busCycle_eq_cyclePorts none s (fun n => by simp [hen, hwe, hw, haddr, hdata, hostWrite_eq_hostEffect])]
      simp [rdataPorts, hwe, hw]
    | false =>
      rw [if_neg Bool.false_ne_true, exec_decodeRead, readCycle,
        busCycle_eq_cyclePorts _ s (fun n => by simp [hwe, hw, hostSkip])]
      simp [rdataPorts, hen, hwe, hw, haddr]

/-- Settles O49: the step is the cycle over the ports, of a read in flight. -/
theorem readInFlightKeepsItsConfiguration : Obligations.ReadInFlightKeepsItsConfiguration := by
  unfold Obligations.ReadInFlightKeepsItsConfiguration
  intro s t h hb hr
  have hbusy : s.block.st ≠ .idle := by simpa [Block.busy] using hb
  rw [stepIsTheCycleOverThePorts s] at h
  cases h
  obtain ⟨hdeadline, hcal, hthresh⟩ := cyclePorts_keeps_config Config.params (inp := s.inputsNow) hr hbusy
  refine ⟨hdeadline, hcal, hthresh, ?_⟩
  rcases cyclePorts_busy_or_ended Config.params (inp := s.inputsNow) hr hbusy with hst | ⟨-, hend⟩
  · exact .inl (by simpa [Block.busy] using hst)
  · exact .inr hend

end Sys2Proof.Machine
end

section
/-! Proofs about the frame (40_pulse_capture.md R156 to R160): the bit of a width, its place, the decoded frame, and the
invariant that ties the frame buffer to the widths of the completed pulses. -/

namespace Sys2Proof.Machine

/-! ## The bit of a width and its place (R156, R157) -/

theorem classify_iff (w thr : Ticks) : classify w thr = true ↔ w.toNat < thr.toNat := by
  rw [classify, decide_eq_true_iff, BitVec.lt_def]

/-- Settles O16: the corner cases are the order of numbers; a completed pulse's width is below the wait's limit. -/
theorem widthBelowThresholdIsBitOne : Obligations.WidthBelowThresholdIsBitOne := by
  unfold Obligations.WidthBelowThresholdIsBitOne
  refine ⟨classify_iff, fun thr => ?equal, fun w => ?zero, fun thr h => ?least, fun P b hinv hst hlim => ?completed,
    by decide, by decide, by decide, by decide⟩
  case equal => simp [classify]
  case zero => simp [classify]
  case least => exact (classify_iff _ _).mpr h
  case completed =>
    obtain ⟨hw, -⟩ := hinv.waitBound (by simp [hst])
    exact (classify_iff _ _).mpr (hw.trans_le hlim)

/-- The bit `k` of byte `i` is the frame bit of one pulse. -/
theorem getLsbD_getD_eq_frameBit (fb : List Byte) (i : Nat) {k : Nat} (hk : k < 8) :
    (fb.getD i 0#8).getLsbD k = frameBit fb (8 * i + (7 - k)) := by
  have hbyte : (8 * i + (7 - k)) / 8 = i := by omega
  have hbit : 7 - (8 * i + (7 - k)) % 8 = k := by omega
  rw [frameBit, hbyte, hbit]

/-- Settles O17: the bits of the bytes are the frame bits of the pulses. -/
theorem placedBitIsTheOnlyOneWritten : Obligations.PlacedBitIsTheOnlyOneWritten := by
  unfold Obligations.PlacedBitIsTheOnlyOneWritten
  intro fb p bit hp
  refine ⟨length_placeBit fb p bit, ?_, fun i k hk hne => ?_⟩
  · have hplaced := frameBit_placeBit fb p p bit hp
    rwa [if_pos rfl] at hplaced
  · rw [getLsbD_getD_eq_frameBit _ _ hk, getLsbD_getD_eq_frameBit _ _ hk, frameBit_placeBit _ _ _ _ hp, if_neg (by omega)]

/-! ## The decoded frame (R158) -/

/-- Eight consecutive widths, by their numbers. -/
theorem take_drop_eq_map_getD {ws : List Ticks} {m : Nat} (h : m + 8 ≤ ws.length) :
    (ws.drop m).take 8 = (List.range 8).map (fun j => ws.getD (m + j) 0#16) := by
  apply List.ext_getElem
  · simp; omega
  · intro j h1 h2
    have hj : m + j < ws.length := by simp at h2; omega
    simp [hj]

/-- A decoded byte is the sum of its classes, the first the most significant. -/
theorem decodeByte_toNat (f : Nat → Ticks) (thr : Ticks) :
    (decodeByte ((List.range 8).map f) thr).toNat =
      ((List.range 8).map (fun j => (classify (f j) thr).toNat * 2 ^ (7 - j))).sum := by
  have hbit : ∀ j, (classify (f j) thr).toNat ≤ 1 := fun j => Bool.toNat_le _
  have h0 := hbit 0; have h1 := hbit 1; have h2 := hbit 2; have h3 := hbit 3
  have h4 := hbit 4; have h5 := hbit 5; have h6 := hbit 6; have h7 := hbit 7
  simp [decodeByte, List.range_succ]
  omega

/-- Binary digits, the least significant first, are the bits of their number. -/
theorem testBit_foldr_classify (ws : List Ticks) (thr : Ticks) (k : Nat) :
    (ws.foldr (fun w acc => (classify w thr).toNat + 2 * acc) 0).testBit k = (ws[k]?.map (classify · thr)).getD false := by
  induction ws generalizing k with
  | nil => simp
  | cons w ws ih =>
    rw [List.foldr_cons, Nat.add_comm, ← Nat.bit_val]
    cases k with
    | zero => simp
    | succ k => simpa [Nat.testBit_add_one] using ih k

/-- A decoded byte's bit is the class of its width. -/
theorem getLsbD_decodeByte (f : Nat → Ticks) (thr : Ticks) {k : Nat} (hk : k < 8) :
    (decodeByte ((List.range 8).map f) thr).getLsbD k = classify (f (7 - k)) thr := by
  have hlt : 7 - k < 8 := by omega
  rw [decodeByte, BitVec.getLsbD_ofNat, testBit_foldr_classify, List.getElem?_reverse (by simpa using hk)]
  simp [hk, List.getElem?_range hlt]

theorem decodeFrame_of_length {P : Params} {ws : List Ticks} (thr : Ticks) (h : ws.length = P.npulse) :
    decodeFrame P ws thr = some ((List.range P.frameBytes).map
      (fun b => decodeByte ((List.range 8).map (fun j => ws.getD (8 * b + j) 0#16)) thr)) := by
  rw [decodeFrame, if_pos h, Option.some_inj]
  apply List.map_congr_left
  intro b hb
  have hb' : b < P.frameBytes := List.mem_range.mp hb
  rw [take_drop_eq_map_getD (by rw [h, Params.npulse]; omega)]

/-- Settles O18: byte by byte, of NPULSE widths; any other number of them is no frame. -/
theorem frameIsDecodedMostSignificantBitFirst : Obligations.FrameIsDecodedMostSignificantBitFirst := by
  unfold Obligations.FrameIsDecodedMostSignificantBitFirst
  intro P ws thr
  refine ⟨fun h => ⟨_, decodeFrame_of_length thr h, by simp, fun b hb => ?_⟩, fun h => ?_⟩
  · rw [← decodeByte_toNat]
    simp [hb]
  · have hnone : decodeFrame P ws thr = none := if_neg h
    exact ⟨hnone, by rw [captureVerdict, hnone]⟩

/-! ## The frame buffer records the widths (R160) -/

/-- The block's frame buffer holds one bit per completed pulse, the class of its width. -/
def Block.Records (b : Block) (ws : List Ticks) : Prop :=
  ws.length = b.p.toNat ∧ ∀ q, q < b.p.toNat → frameBit b.fb q = classify (ws.getD q 0#16) b.cfgThresh

/-- The capture invariant is the block's and, while a read is in flight, that the frame buffer records the widths. -/
theorem Traced.inv_iff (P : Params) (x : Traced) :
    x.Inv P ↔ x.block.Inv P ∧ (x.block.st ≠ .idle → x.block.Records x.widths) :=
  ⟨fun h => ⟨h.block, fun hb => ⟨h.length hb, h.bits hb⟩⟩, fun ⟨hinv, hrec⟩ =>
    ⟨hinv, fun hb => (hrec hb).1, fun hb => (hrec hb).2⟩⟩

/-- What a block records lies in its pulse count, its frame buffer and its threshold. -/
theorem Block.Records.congr {b n : Block} {ws : List Ticks} (h : n.Records ws) (hp : b.p = n.p) (hfb : b.fb = n.fb)
    (hthresh : b.cfgThresh = n.cfgThresh) : b.Records ws := by
  unfold Block.Records at h ⊢
  rwa [hp, hfb, hthresh]

/-- The end of a pulse records its width. -/
theorem Block.Records.endPulse {P : Params} {b : Block} {ws : List Ticks} (h : b.Records ws) (hinv : b.Inv P)
    (hP : P.Legal) (hst : b.st = .measureLow) : (endPulse P b).Records (ws ++ [b.w]) := by
  obtain ⟨hlen, hbits⟩ := h
  have hpulse : b.p.toNat < P.npulse := hinv.pulseLeft (.inr hst)
  have hsize : P.npulse = 8 * P.frameBytes := rfl
  have hp : (Machine.endPulse P b).p.toNat = b.p.toNat + 1 := endPulse_p_toNat hP hpulse
  refine ⟨by rw [hp, List.length_append, hlen, List.length_singleton], fun q hq => ?_⟩
  rw [hp] at hq
  rw [endPulse_fb, endPulse_cfgThresh, frameBit_placeBit _ _ _ _ (by rw [hinv.frameLength]; omega)]
  split_ifs with hlast
  · rw [hlast, ← hlen, List.getD_append_right _ _ _ _ le_rfl]
    simp
  · rw [List.getD_append _ _ _ _ (by omega)]
    exact hbits q (by omega)

/-- A read begins with no pulse to record (43_host_commands.md R283). -/
theorem beginRead_records (n : Block) : (beginRead n).Records [] := ⟨rfl, fun _ hq => absurd hq (Nat.not_lt_zero _)⟩

/-- The capture part writes the pulse count and the frame buffer at the end of a pulse only (R157, R159). -/
theorem capture_keeps_frame (P : Params) {b : Block} {e : EnvPins} (h : ¬ (b.st = .measureLow ∧ e.resp = true)) :
    (capture P b e).1.p = b.p ∧ (capture P b e).1.fb = b.fb := by
  rcases capture_cases P b e with
    ⟨hc, -⟩ | ⟨-, -, hc⟩ | ⟨-, -, -, -, hc⟩ | ⟨hst, hr, -⟩ | ⟨-, -, -, -, hc⟩ | ⟨-, -, hc⟩ | ⟨-, hc⟩
  case inr.inr.inr.inl => exact absurd ⟨hst, hr⟩ h
  case inr.inr.inr.inr.inr.inr =>
    rcases evalStep_cases P b with ⟨code, -, -, he⟩ | ⟨payload, L, lvl, base, az, g, -, -, he⟩ <;> rw [hc, he] <;>
      exact ⟨rfl, rfl⟩
  all_goals rw [hc]; exact ⟨rfl, rfl⟩

/-- A cycle of a read in flight records the width of the pulse that it ends, if it ends one. -/
theorem Block.Records.cyclePorts {P : Params} {b : Block} {ws : List Ticks} (h : b.Records ws) (hinv : b.Inv P)
    (hP : P.Legal) {inp : Inputs} (hr : inp.rst = false) (hb : b.st ≠ .idle) :
    (cyclePorts P b inp).Records (if b.st = .measureLow ∧ inp.resp = true then ws ++ [b.w] else ws) := by
  have hc := cyclePorts_busy P hr hb
  obtain ⟨-, -, hthresh⟩ := hc.config
  split_ifs with hend
  · rw [capture_measureLow_high P hend.1 hend.2] at hc hthresh
    exact (h.endPulse hinv hP hend.1).congr hc.p hc.fb hthresh
  · obtain ⟨hp, hfb⟩ := capture_keeps_frame P (e := { resp := inp.resp, usTick := inp.usTick }) hend
    obtain ⟨-, -, hkeep⟩ := capture_keeps_config P b { resp := inp.resp, usTick := inp.usTick }
    exact h.congr (hc.p.trans hp) (hc.fb.trans hfb) (hthresh.trans hkeep)

/-- A cycle without reset of an IDLE block begins a read, with START, or leaves it IDLE (70_reset_and_hazards.md R367). -/
theorem cyclePorts_idle (P : Params) {b : Block} {inp : Inputs} (hr : inp.rst = false) (hi : b.st = .idle) :
    inp.startNow = true ∧ (cyclePorts P b inp).CapturedAs (beginRead b) ∨
    inp.startNow = false ∧ (cyclePorts P b inp).st = .idle := by
  rw [cyclePorts_noReset P b inp hr, capture_idle P hi]
  rcases hostPart_cases b inp b hr with ⟨e, hs⟩ | ⟨hs, e⟩ | ⟨hs, e | ⟨c, e⟩ | ⟨d, c, e⟩ | ⟨d, e⟩⟩ <;> rw [e]
  · exact .inr ⟨hs, hi⟩
  · rw [hostStart, if_pos hi]
    exact .inl ⟨hs, _, _, _, _, rfl⟩
  · exact .inr ⟨hs, hi⟩
  · exact .inr ⟨hs, hi⟩
  · rw [hostConfig, if_pos hi]
    exact .inr ⟨hs, hi⟩
  · rw [hostThresh, if_pos hi]
    exact .inr ⟨hs, hi⟩

/-- Any cycle over the ports keeps the block's invariant, at every legal size. -/
theorem Block.Inv.cyclePorts {P : Params} (hP : P.Legal) {b : Block} (h : b.Inv P) (inp : Inputs) :
    (cyclePorts P b inp).Inv P := by
  cases hr : inp.rst with
  | true => exact cyclePorts_reset P b inp hr ▸ Block.reset_inv P hP
  | false =>
    have hn := h.capture hP { resp := inp.resp, usTick := inp.usTick }
    rw [cyclePorts_noReset P b inp hr]
    apply Block.Inv.commitCounters
    unfold hostPart
    split_ifs
    · rw [hostWrite_eq_hostEffect]
      exact hn.hostEffect hP (fun hi => by rw [capture_idle P hi, hi]) _
    · exact hn

/-- Without reset, a cycle of a read in flight adds the width of the pulse that it ends. -/
theorem Traced.cycle_widths_busy (P : Params) {x : Traced} {inp : Inputs} (hr : inp.rst = false)
    (hb : x.block.st ≠ .idle) :
    (x.cycle P inp).widths = if x.block.st = .measureLow ∧ inp.resp = true then x.widths ++ [x.block.w] else x.widths := by
  simp only [Traced.cycle, hr, Bool.false_eq_true, if_false]
  cases hst : x.block.st with
  | idle => exact absurd hst hb
  | measureLow => simp
  | waitHigh | eval => simp

/-- Settles O19: a reset ends the read; without one an IDLE block begins one, with no width, or stays IDLE, and a read in
flight records the width of the pulse it ends. -/
theorem everyCycleKeepsTheCaptureInvariant : Obligations.EveryCycleKeepsTheCaptureInvariant := by
  unfold Obligations.EveryCycleKeepsTheCaptureInvariant
  intro P x inp hP h
  rw [Traced.inv_iff] at h ⊢
  obtain ⟨hinv, hrec⟩ := h
  refine ⟨hinv.cyclePorts hP inp, fun hb => ?_⟩
  change (cyclePorts P x.block inp).st ≠ .idle at hb
  change (cyclePorts P x.block inp).Records (x.cycle P inp).widths
  cases hr : inp.rst with
  | true => exact absurd (by rw [cyclePorts_reset P x.block inp hr, Block.reset_st]) hb
  | false =>
    by_cases hi : x.block.st = .idle
    · rcases cyclePorts_idle P hr hi with ⟨hs, hc⟩ | ⟨-, hidle⟩
      · have hnone : (x.cycle P inp).widths = [] := by simp [Traced.cycle, hr, hi, hs]
        obtain ⟨-, -, hthresh⟩ := hc.config
        exact hnone ▸ (beginRead_records x.block).congr hc.p hc.fb hthresh
      · exact absurd hidle hb
    · rw [Traced.cycle_widths_busy P hr hi]
      exact (hrec hi).cyclePorts hinv hP hr hi

/-- The capture invariant holds after any cycles from reset. -/
theorem tracedRun_inv {P : Params} (hP : P.Legal) (ins : List Inputs) : (tracedRun P ins).Inv P := by
  induction ins using List.reverseRecOn with
  | nil => exact (Traced.inv_iff P _).mpr ⟨Block.reset_inv P hP, fun hb => absurd rfl hb⟩
  | append_singleton ins inp ih =>
    rw [tracedRun, List.foldl_append]
    exact everyCycleKeepsTheCaptureInvariant P _ inp hP ih

/-- A frame buffer that records NPULSE widths is their decoded frame. -/
theorem Block.Records.decodeFrame {P : Params} {b : Block} {ws : List Ticks} (h : b.Records ws)
    (hp : b.p.toNat = P.npulse) (hlen : b.fb.length = P.frameBytes) : decodeFrame P ws b.cfgThresh = some b.fb := by
  obtain ⟨hws, hbits⟩ := h
  rw [decodeFrame_of_length _ (hws.trans hp), Option.some_inj]
  apply List.ext_getElem
  · simp [hlen]
  · intro i h1 h2
    have hi : 8 * i + 8 ≤ P.npulse := by rw [Params.npulse]; omega
    rw [List.getElem_map, List.getElem_range]
    apply BitVec.eq_of_getLsbD_eq
    intro k hk
    rw [getLsbD_decodeByte _ _ hk, ← hbits _ (by omega), ← getLsbD_getD_eq_frameBit _ _ hk, List.getD_eq_getElem _ _ h2]

/-- Settles O20: the capture invariant holds after any cycles from reset, and EVAL is entered with NPULSE widths. -/
theorem frameBufferHoldsTheDecodedWidths : Obligations.FrameBufferHoldsTheDecodedWidths := by
  unfold Obligations.FrameBufferHoldsTheDecodedWidths
  intro P ins hP hb
  obtain ⟨hinv, hrec⟩ := (Traced.inv_iff P _).mp (tracedRun_inv hP ins)
  obtain ⟨hlen, hbits⟩ := hrec hb
  exact ⟨hlen, hbits, hinv.unwritten, fun heval => (hrec hb).decodeFrame (hinv.evalComplete heval) hinv.frameLength⟩

end Sys2Proof.Machine
end

section
/-! Proofs about the waits (40_pulse_capture.md R151 to R154): the step of each, the wait over many cycles, and the width of a
low period. -/

namespace Sys2Proof.Machine

/-! ## One cycle without a transaction (R151, R152) -/

/-- A cycle without reset or transaction is the capture part and the counters. -/
theorem cyclePorts_quiet (P : Params) (b : Block) {inp : Inputs} (hr : inp.rst = false) (he : inp.busEn = false) :
    cyclePorts P b inp = commitCounters false b (capture P b { resp := inp.resp, usTick := inp.usTick }).1
      (capture P b { resp := inp.resp, usTick := inp.usTick }).2 := by
  rw [cyclePorts_noReset P b inp hr]
  simp [hostPart, Inputs.clearNow, he]

/-- Nothing counted: the counters stay as the capture part leaves them, if it leaves them. -/
theorem commitCounters_zero {b n : Block} (hnr : n.nrCnt = b.nrCnt) (hpre : n.preCnt = b.preCnt)
    (hck : n.ckCnt = b.ckCnt) : commitCounters false b n Incs.zero = n := by
  simp [commitCounters, Incs.zero, ← hnr, ← hpre, ← hck]

/-- A failed read that counts as NO_RESPONSE, element by element (41_frame_validation.md R205, R206). -/
theorem commitCounters_noResponse (b : Block) :
    commitCounters false b (finishFailed .noResponse b) OutcomeCode.noResponse.incs = { b with
      st := .idle, done := true, resCode := 2#3, levelQ := 0#15, resLvl := 0#4, resBase := 0#4, resAllzero := false,
      resGuard := false, nrCnt := BitVec.ofNat 32 (min (b.nrCnt.toNat + 1) (2 ^ 32 - 1)) } := by
  simp only [commitCounters, OutcomeCode.incs, counterNext_keep]
  rfl

theorem ofNat_toNat_succ (c : Ticks) : BitVec.ofNat 16 (c.toNat + 1) = c + 1#16 := by
  rw [BitVec.ofNat_add, BitVec.ofNat_toNat, BitVec.setWidth_eq]

section QuietWait

variable (P : Params) {b : Block} {inp : Inputs} {level : Bool}

theorem cyclePorts_quiet_wait_keeps (hst : b.st = waitState level) (hr : inp.rst = false) (he : inp.busEn = false)
    (hl : inp.resp = level) (ht : inp.usTick = false) : cyclePorts P b inp = b := by
  rw [cyclePorts_quiet P b hr he, capture_wait P hst hl, if_neg (by simp [ht])]
  exact commitCounters_zero rfl rfl rfl

theorem cyclePorts_quiet_wait_counts (hst : b.st = waitState level) (hr : inp.rst = false) (he : inp.busEn = false)
    (hl : inp.resp = level) (ht : inp.usTick = true) (hd : (b.waitCount level).toNat + 1 < b.cfgDeadline.toNat) :
    cyclePorts P b inp = b.setCount level (BitVec.ofNat 16 ((b.waitCount level).toNat + 1)) := by
  rw [cyclePorts_quiet P b hr he, capture_wait P hst hl, if_pos ht, if_neg (Nat.not_le.mpr hd), ofNat_toNat_succ]
  cases level <;> exact commitCounters_zero rfl rfl rfl

theorem cyclePorts_quiet_wait_fails (hst : b.st = waitState level) (hr : inp.rst = false) (he : inp.busEn = false)
    (hl : inp.resp = level) (ht : inp.usTick = true) (hd : b.cfgDeadline.toNat ≤ (b.waitCount level).toNat + 1) :
    cyclePorts P b inp = { b with
      st := .idle, done := true, resCode := 2#3, levelQ := 0#15, resLvl := 0#4, resBase := 0#4, resAllzero := false,
      resGuard := false, nrCnt := BitVec.ofNat 32 (min (b.nrCnt.toNat + 1) (2 ^ 32 - 1)) } := by
  rw [cyclePorts_quiet P b hr he, capture_wait P hst hl, if_pos ht, if_pos hd]
  exact commitCounters_noResponse b

end QuietWait

/-- Settles O12: the wait for the line to leave its high level, and its end. -/
theorem waitHighStepOutcomes : Obligations.WaitHighStepOutcomes := by
  unfold Obligations.WaitHighStepOutcomes
  intro P b inp hst hr he
  refine ⟨fun hl => ?low, fun hl => ?idle, fun hl => ?count, fun hl => ?fail⟩
  case low =>
    rw [cyclePorts_quiet P b hr he, capture_waitHigh_low P hst hl]
    exact commitCounters_zero rfl rfl rfl
  case idle => exact cyclePorts_quiet_wait_keeps P (level := true) hst hr he hl
  case count => exact cyclePorts_quiet_wait_counts P (level := true) hst hr he hl
  case fail => exact cyclePorts_quiet_wait_fails P (level := true) hst hr he hl

/-- Settles O13: the wait for the line to leave its low level, and its end. -/
theorem measureLowStepOutcomes : Obligations.MeasureLowStepOutcomes := by
  unfold Obligations.MeasureLowStepOutcomes
  intro P b inp hst hr he
  refine ⟨fun hl => ?high, fun hl => ?idle, fun hl => ?count, fun hl => ?fail⟩
  case high =>
    rw [cyclePorts_quiet P b hr he, capture_measureLow_high P hst hl]
    exact commitCounters_zero rfl rfl rfl
  case idle => exact cyclePorts_quiet_wait_keeps P (level := false) hst hr he hl
  case count => exact cyclePorts_quiet_wait_counts P (level := false) hst hr he hl
  case fail => exact cyclePorts_quiet_wait_fails P (level := false) hst hr he hl

/-! ## A wait over many cycles (R153) -/

@[simp] theorem runPorts_nil (P : Params) (b : Block) : runPorts P b [] = b := rfl

@[simp] theorem runPorts_cons (P : Params) (b : Block) (inp : Inputs) (ins : List Inputs) :
    runPorts P b (inp :: ins) = runPorts P (cyclePorts P b inp) ins := rfl

theorem runPorts_concat (P : Params) (b : Block) (ins : List Inputs) (last : Inputs) :
    runPorts P b (ins ++ [last]) = cyclePorts P (runPorts P b ins) last := by
  rw [runPorts, List.foldl_append]
  rfl

@[simp] theorem tickCount_nil : tickCount [] = 0 := rfl

@[simp] theorem tickCount_cons (inp : Inputs) (ins : List Inputs) :
    tickCount (inp :: ins) = inp.usTick.toNat + tickCount ins := by
  rw [tickCount, List.countP_cons, Nat.add_comm]
  cases inp.usTick <;> rfl

/-- One cycle of a wait, whatever the host presents. -/
theorem cyclePorts_wait (P : Params) {b : Block} {inp : Inputs} {level : Bool} (hst : b.st = waitState level)
    (hr : inp.rst = false) (hl : inp.resp = level) :
    (cyclePorts P b inp).CapturedAs
      (if inp.usTick then
        if b.cfgDeadline.toNat ≤ (b.waitCount level).toNat + 1 then finishFailed .noResponse b
        else b.setCount level (b.waitCount level + 1#16)
      else b) := by
  have hc := cyclePorts_busy P hr (hst ▸ waitState_ne_idle level)
  rw [capture_wait P hst hl] at hc
  simpa only [apply_ite Prod.fst] using hc

theorem Block.CapturedAs.waitCount {b n : Block} (h : b.CapturedAs n) (level : Bool) :
    b.waitCount level = n.waitCount level := by
  rw [Block.waitCount, Block.waitCount, h.t, h.w]

theorem Block.CapturedAs.waitLimit {b n : Block} (h : b.CapturedAs n) : b.waitLimit = n.waitLimit := by
  rw [Block.waitLimit, Block.waitLimit, h.config.1]

theorem Block.CapturedAs.setCount {b n : Block} (h : b.CapturedAs n) (level : Bool) (c : Ticks) :
    (b.setCount level c).CapturedAs (n.setCount level c) := by
  obtain ⟨ign, nr, pre, ck, rfl⟩ := h
  cases level <;> exact ⟨_, _, _, _, rfl⟩

@[simp] theorem setCount_setCount (level : Bool) (c d : Ticks) (b : Block) :
    (b.setCount level c).setCount level d = b.setCount level d := by cases level <;> rfl

@[simp] theorem setCount_waitCount_self (level : Bool) (b : Block) : b.setCount level (b.waitCount level) = b := by
  cases level <;> rfl

@[simp] theorem setCount_waitLimit (level : Bool) (c : Ticks) (b : Block) : (b.setCount level c).waitLimit = b.waitLimit := by
  cases level <;> rfl

/-- A wait whose line stays at its level lasts through every tick before the limit's, and counts them: without ticks, for
ever. -/
theorem runPorts_wait (P : Params) {b : Block} {level : Bool} {ins : List Inputs} (hst : b.st = waitState level)
    (hin : ∀ inp ∈ ins, inp.rst = false ∧ inp.resp = level)
    (hfew : tickCount ins ≤ b.waitLimit - 1 - (b.waitCount level).toNat) :
    (runPorts P b ins).CapturedAs (b.setCount level (b.waitCount level + BitVec.ofNat 16 (tickCount ins))) := by
  induction ins generalizing b with
  | nil =>
    rw [runPorts_nil, tickCount_nil, BitVec.add_zero, setCount_waitCount_self]
    exact .refl b
  | cons inp ins ih =>
    obtain ⟨⟨hr, hl⟩, hrest⟩ := List.forall_mem_cons.mp hin
    have hc := cyclePorts_wait P hst hr hl
    rw [tickCount_cons] at hfew ⊢
    rw [runPorts_cons]
    cases ht : inp.usTick with
    | false =>
      simp only [ht, Bool.false_eq_true, if_false, Bool.toNat_false, Nat.zero_add] at hc hfew ⊢
      have hrun := ih (hc.st.trans hst) hrest (by rw [hc.waitLimit, hc.waitCount]; exact hfew)
      rw [hc.waitCount] at hrun
      exact hrun.trans (hc.setCount level _)
    | true =>
      simp only [ht, if_true, Bool.toNat_true] at hc hfew ⊢
      have hbefore : ¬ b.cfgDeadline.toNat ≤ (b.waitCount level).toNat + 1 := by
        unfold Block.waitLimit at hfew
        omega
      have hcount := toNat_succ_of_lt (Nat.not_le.mp hbefore)
      rw [if_neg hbefore] at hc
      have hrun := ih (hc.st.trans ((setCount_st _ _ _).trans hst)) hrest
        (by rw [hc.waitLimit, hc.waitCount, setCount_waitLimit, setCount_waitCount, hcount]; omega)
      rw [hc.waitCount, setCount_waitCount] at hrun
      have hrun' := hrun.trans (hc.setCount level _)
      rwa [setCount_setCount, BitVec.add_assoc, ← BitVec.ofNat_add] at hrun'

/-- From its entry a wait shows the number of ticks below the limit. -/
theorem runPorts_wait_count (P : Params) {b : Block} {level : Bool} {ins : List Inputs} (hst : b.st = waitState level)
    (hzero : b.waitCount level = 0#16) (hin : ∀ inp ∈ ins, inp.rst = false ∧ inp.resp = level)
    (hfew : tickCount ins < b.waitLimit) :
    (runPorts P b ins).st = waitState level ∧ ((runPorts P b ins).waitCount level).toNat = tickCount ins := by
  have hc := runPorts_wait P hst hin (by rw [hzero]; exact Nat.le_sub_one_of_lt hfew)
  refine ⟨hc.st.trans ((setCount_st _ _ _).trans hst), ?_⟩
  have hlt := b.cfgDeadline.isLt
  unfold Block.waitLimit at hfew
  rw [hc.waitCount, setCount_waitCount, hzero, BitVec.zero_add, BitVec.toNat_ofNat]
  omega

/-- The tick that makes a wait's count reach the limit ends the read in NO_RESPONSE. -/
theorem runPorts_wait_fails (P : Params) {b : Block} {level : Bool} {ins : List Inputs} {last : Inputs}
    (hst : b.st = waitState level) (hzero : b.waitCount level = 0#16)
    (hin : ∀ inp ∈ ins, inp.rst = false ∧ inp.resp = level) (hr : last.rst = false) (hl : last.resp = level)
    (ht : last.usTick = true) (hlimit : tickCount ins + 1 = b.waitLimit) :
    (runPorts P b (ins ++ [last])).CapturedAs (finishFailed .noResponse (runPorts P b ins)) := by
  obtain ⟨hwait, hcount⟩ := runPorts_wait_count P hst hzero hin (by omega)
  have hc := runPorts_wait P hst hin (by rw [hzero]; exact Nat.le_sub_one_of_lt (by omega))
  have hdeadline : (runPorts P b ins).cfgDeadline = b.cfgDeadline := hc.config.1.trans (setCount_cfgDeadline _ _ _)
  have hlast := cyclePorts_wait P hwait hr hl
  rw [if_pos ht, if_pos (by rw [hdeadline, hcount, hlimit]; exact le_max_left _ _)] at hlast
  rw [runPorts_concat]
  exact hlast

/-- Both halves of R153 for either wait. -/
theorem wait_lasts_then_fails (P : Params) {b : Block} {level : Bool} {ins : List Inputs} {last : Inputs}
    (hst : b.st = waitState level) (hzero : b.waitCount level = 0#16)
    (hin : ∀ inp ∈ ins, inp.rst = false ∧ inp.resp = level) (hr : last.rst = false) (hl : last.resp = level)
    (ht : last.usTick = true) (hlimit : tickCount ins + 1 = b.waitLimit) :
    ((runPorts P b ins).st = waitState level ∧ ((runPorts P b ins).waitCount level).toNat = tickCount ins) ∧
      ((runPorts P b (ins ++ [last])).st = .idle ∧ (runPorts P b (ins ++ [last])).done = true ∧
        (runPorts P b (ins ++ [last])).resCode = OutcomeCode.noResponse.code ∧
        (runPorts P b (ins ++ [last])).p = b.p ∧ (runPorts P b (ins ++ [last])).fb = b.fb) := by
  have hc := runPorts_wait P hst hin (by rw [hzero]; exact Nat.le_sub_one_of_lt (by omega))
  have hend := runPorts_wait_fails P hst hzero hin hr hl ht hlimit
  exact ⟨runPorts_wait_count P hst hzero hin (by omega), hend.st, hend.done, hend.resCode,
    hend.p.trans (hc.p.trans (setCount_p _ _ _)), hend.fb.trans (hc.fb.trans (setCount_fb _ _ _))⟩

/-- Settles O14: the same of either wait. -/
theorem eachWaitFailsAtItsDeadlineTick : Obligations.EachWaitFailsAtItsDeadlineTick := by
  unfold Obligations.EachWaitFailsAtItsDeadlineTick
  intro P b ins last hrs hr ht hlimit
  refine ⟨fun hst hzero hls hl => ?high, fun hst hzero hls hl => ?low⟩
  case high => exact wait_lasts_then_fails (level := true) P hst hzero (fun inp h => ⟨hrs inp h, hls inp h⟩) hr hl ht hlimit
  case low => exact wait_lasts_then_fails (level := false) P hst hzero (fun inp h => ⟨hrs inp h, hls inp h⟩) hr hl ht hlimit

/-! ## Ticks by the number of their cycle -/

/-- The ticks of cycles whose strobe is a function of the cycle's number. -/
theorem tickCount_eq_countP_range {ins : List Inputs} {f : Nat → Bool} (h : ∀ j (hj : j < ins.length), ins[j].usTick = f j) :
    tickCount ins = (List.range ins.length).countP f := by
  have hmap : ins.map (fun inp => inp.usTick) = (List.range ins.length).map f :=
    List.ext_getElem (by simp) (fun j h1 h2 => by simpa using h j (by simpa using h1))
  have hcount := congrArg (List.countP id) hmap
  rwa [List.countP_map, List.countP_map] at hcount

/-- Of `n` numbers in a row every `K`-th is counted, from any phase on: `floor(n / K)` or `ceil(n / K)` of them. -/
theorem countP_periodic (n phase : Nat) {K : Nat} (hK : 0 < K) :
    (List.range n).countP (fun j => decide ((j + phase) % K = 0)) = n / K ∨
    (List.range n).countP (fun j => decide ((j + phase) % K = 0)) = (n + K - 1) / K := by
  have hphase : K - phase % K + phase ≡ 0 [MOD K] := by
    have hsum : K - phase % K + phase = K * (phase / K + 1) := by
      have hlt := Nat.mod_lt phase hK
      have hdiv := Nat.div_add_mod phase K
      rw [Nat.mul_add_one]
      omega
    exact hsum ▸ Nat.modEq_zero_iff_dvd.mpr (Nat.dvd_mul_right _ _)
  have hmod : ∀ j, j ≡ K - phase % K [MOD K] ↔ (j + phase) % K = 0 := fun j =>
    ⟨fun h => (h.add_right phase).trans hphase, fun h => Nat.ModEq.add_right_cancel' phase (h.trans hphase.symm)⟩
  have hcount := Nat.count_modEq_card n hK (K - phase % K)
  simp only [Nat.count, hmod] at hcount
  rw [hcount]
  split_ifs with h
  · obtain _ | m := n
    · simp at h
    · have hdvd : ¬ K ∣ m + 1 := fun hd => by simp [Nat.mod_eq_zero_of_dvd hd] at h
      right
      rw [Nat.succ_div_of_not_dvd hdvd, Nat.succ_add_sub_one, Nat.add_div_right m hK]
  · exact .inl rfl

/-- Settles O15: the first low cycle enters MEASURE_LOW with `w = 0`, which is the entry of a wait. -/
theorem widthIsTheTicksOfTheLowPeriod : Obligations.WidthIsTheTicksOfTheLowPeriod := by
  unfold Obligations.WidthIsTheTicksOfTheLowPeriod
  intro P b first lows hst hr hl hlows hfew
  have hc := cyclePorts_busy P (b := b) hr (by simp [hst])
  rw [capture_waitHigh_low P hst hl] at hc
  have hwidth := runPorts_wait_count (level := false) P (ins := lows) hc.st hc.w hlows (by rw [hc.waitLimit]; exact hfew)
  rw [runPorts_cons]
  refine ⟨hwidth, fun K phase hK hticks => ?_⟩
  obtain ⟨-, hw⟩ := hwidth
  have hperiod := countP_periodic lows.length phase hK
  rw [← tickCount_eq_countP_range hticks, ← hw] at hperiod
  exact hperiod

end Sys2Proof.Machine
end

section
/-! Proofs about the end of a read (40_pulse_capture.md R162): every cycle of a read in flight ends it or uses up its ticks, so
that it ends within a number of ticks, and, with the timebase, of microseconds. -/

namespace Sys2Proof.Machine

/-! ## The ticks that a read in flight can still take -/

/-- A read in flight with what bounds it: in a wait, a pulse is left to measure and the count is below the limit. This is all
of the block's invariant that R162 needs. -/
def Block.Bounded (P : Params) (b : Block) : Prop :=
  match b.st with
  | .idle => False
  | .waitHigh => b.p.toNat < P.npulse ∧ b.t.toNat < b.waitLimit
  | .measureLow => b.p.toNat < P.npulse ∧ b.w.toNat < b.waitLimit
  | .eval => True

section Bounded

variable {P : Params} {b : Block}

theorem Block.Bounded.ne_idle (h : b.Bounded P) : b.st ≠ .idle := fun hi => by simp [Block.Bounded, hi] at h

theorem Block.bounded_eval (hst : b.st = .eval) : b.Bounded P := by simp [Block.Bounded, hst]

theorem Block.ticksLeft_eval (hst : b.st = .eval) : b.ticksLeft P = 0 := by simp [Block.ticksLeft, hst]

theorem Block.bounded_wait {level : Bool} (hst : b.st = waitState level) :
    b.Bounded P ↔ b.p.toNat < P.npulse ∧ (b.waitCount level).toNat < b.waitLimit := by
  cases level <;> simp [Block.Bounded, hst, waitState, Block.waitCount]

/-- In a wait of a read with `k` pulses after the current one: two waits for each of them, the low one of the current pulse if
it is still to come, and the rest of this wait. -/
theorem Block.ticksLeft_wait {level : Bool} {k : Nat} (hst : b.st = waitState level) (hk : P.npulse = b.p.toNat + k + 1)
    (hcount : (b.waitCount level).toNat < b.waitLimit) :
    b.ticksLeft P = (2 * k + level.toNat) * b.waitLimit + (b.waitLimit - (b.waitCount level).toNat) := by
  have hpulses : P.npulse - b.p.toNat = k + 1 := by omega
  cases level with
  | true =>
    have hwaits : 2 * (k + 1) * b.waitLimit = (2 * k + 1) * b.waitLimit + b.waitLimit := by ring
    simp only [Block.waitCount, if_true] at hcount ⊢
    simp only [Block.ticksLeft, hst, waitState, if_true, hpulses, hwaits, Bool.toNat_true]
    omega
  | false =>
    have hwaits : (2 * (k + 1) - 1) * b.waitLimit = (2 * k + 0) * b.waitLimit + b.waitLimit := by
      rw [show 2 * (k + 1) - 1 = 2 * k + 0 + 1 by omega]
      ring
    simp only [Block.waitCount, Bool.false_eq_true, if_false] at hcount ⊢
    simp only [Block.ticksLeft, hst, waitState, Bool.false_eq_true, if_false, hpulses, hwaits, Bool.toNat_false]
    omega

theorem Block.CapturedAs.bounded_iff {n : Block} (h : b.CapturedAs n) : b.Bounded P ↔ n.Bounded P := by
  obtain ⟨ign, nr, pre, ck, rfl⟩ := h
  exact Iff.rfl

theorem Block.CapturedAs.ticksLeft {n : Block} (h : b.CapturedAs n) : b.ticksLeft P = n.ticksLeft P := by
  obtain ⟨ign, nr, pre, ck, rfl⟩ := h
  rfl

/-! ## Every cycle of a read in flight -/

/-- `n` comes after `b` in a read, in a cycle of that many ticks: the read has ended, or is bounded with fewer ticks left. -/
def Block.Advances (P : Params) (b n : Block) (ticks : Nat) : Prop :=
  n.Ended ∨ n.Bounded P ∧ n.ticksLeft P + ticks ≤ b.ticksLeft P

/-- Within a wait: a tick is counted or ends the read. -/
theorem capture_wait_advances {level : Bool} (h : b.Bounded P) (hst : b.st = waitState level) {e : EnvPins}
    (hl : e.resp = level) : b.Advances P (capture P b e).1 e.usTick.toNat := by
  obtain ⟨hp, hcount⟩ := (Block.bounded_wait hst).mp h
  obtain ⟨k, hk⟩ := Nat.exists_eq_add_of_lt hp
  rw [capture_wait P hst hl]
  split_ifs with ht hd
  · exact .inl (finish_ended (by decide) ..)
  · have hd' : (b.waitCount level).toNat + 1 < b.cfgDeadline.toNat := by omega
    have hlt : (b.waitCount level + 1#16).toNat < b.waitLimit := toNat_succ_lt_waitLimit hd'
    have hnext := toNat_succ_of_lt hd'
    have hst' := (setCount_st level (b.waitCount level + 1#16) b).trans hst
    have hbounded := (Block.bounded_wait (P := P) hst').mpr (by simpa using ⟨hp, hlt⟩)
    refine .inr ⟨hbounded, ?_⟩
    rw [Block.ticksLeft_wait hst hk hcount, Block.ticksLeft_wait (k := k) hst' (by simpa using hk) (by simpa using hlt)]
    simp only [setCount_waitLimit, setCount_waitCount, hnext, ht, Bool.toNat_true]
    omega
  · exact .inr ⟨h, by simp [ht]⟩

/-- The first low sample begins the low wait of the same pulse; a tick in it counts towards neither wait. -/
theorem capture_low_advances (h : b.Bounded P) (hst : b.st = .waitHigh) {e : EnvPins} (hl : e.resp = false) :
    b.Advances P (capture P b e).1 e.usTick.toNat := by
  have hwait : b.st = waitState true := hst
  obtain ⟨hp, hcount⟩ := (Block.bounded_wait hwait).mp h
  obtain ⟨k, hk⟩ := Nat.exists_eq_add_of_lt hp
  have htick : e.usTick.toNat ≤ 1 := Bool.toNat_le _
  have hpos : 0 < b.waitLimit := by omega
  rw [capture_waitHigh_low P hst hl]
  refine .inr ⟨⟨hp, hpos⟩, ?_⟩
  have hleft : ({ b with st := .measureLow, w := 0#16 } : Block).ticksLeft P =
      (2 * k + false.toNat) * b.waitLimit + (b.waitLimit - 0) := Block.ticksLeft_wait (level := false) rfl hk hpos
  have hwaits : (2 * k + 1) * b.waitLimit = (2 * k + 0) * b.waitLimit + b.waitLimit := by ring
  rw [hleft, Block.ticksLeft_wait hwait hk hcount, Bool.toNat_true, Bool.toNat_false, hwaits]
  omega

/-- The end of a pulse begins the high wait of the next one, or EVAL. -/
theorem endPulse_advances (hP : P.Legal) (h : b.Bounded P) (hst : b.st = .measureLow) {ticks : Nat} (htick : ticks ≤ 1) :
    b.Advances P (endPulse P b) ticks := by
  have hwait : b.st = waitState false := hst
  obtain ⟨hp, hcount⟩ := (Block.bounded_wait hwait).mp h
  obtain ⟨k, hk⟩ := Nat.exists_eq_add_of_lt hp
  have hpulse := endPulse_p_toNat hP hp
  have hpos : 0 < b.waitLimit := by omega
  have hleft := Block.ticksLeft_wait hwait hk hcount
  right
  cases k with
  | zero =>
    have heval : (endPulse P b).st = .eval := by rw [endPulse_st, if_pos hk.symm]
    refine ⟨Block.bounded_eval heval, ?_⟩
    rw [Block.ticksLeft_eval heval, hleft]
    omega
  | succ k =>
    have hnext : (endPulse P b).st = waitState true := by rw [endPulse_st, if_neg (by omega)]; rfl
    have hk' : P.npulse = (endPulse P b).p.toNat + k + 1 := by omega
    have hbounded := (Block.bounded_wait (P := P) hnext).mpr ⟨by omega, hpos⟩
    refine ⟨hbounded, ?_⟩
    have hleft' : (endPulse P b).ticksLeft P = (2 * k + true.toNat) * b.waitLimit + (b.waitLimit - 0) :=
      Block.ticksLeft_wait hnext hk' hpos
    have hwaits : (2 * (k + 1) + 0) * b.waitLimit = (2 * k + 1) * b.waitLimit + b.waitLimit := by ring
    rw [hleft', hleft, Bool.toNat_true, Bool.toNat_false, hwaits]
    omega

/-- Every cycle without reset of a read in flight ends it or uses up its ticks, whatever the line and the host do. -/
theorem cyclePorts_advances (hP : P.Legal) (h : b.Bounded P) {inp : Inputs} (hr : inp.rst = false) :
    b.Advances P (cyclePorts P b inp) inp.usTick.toNat := by
  have hcapture : b.Advances P (capture P b { resp := inp.resp, usTick := inp.usTick }).1 inp.usTick.toNat := by
    cases hst : b.st with
    | idle => exact absurd hst h.ne_idle
    | waitHigh =>
      cases hl : inp.resp with
      | false => exact capture_low_advances h hst rfl
      | true => exact capture_wait_advances (level := true) h hst rfl
    | measureLow =>
      cases hl : inp.resp with
      | false => exact capture_wait_advances (level := false) h hst rfl
      | true => exact capture_measureLow_high P hst (e := ⟨true, _⟩) rfl ▸ endPulse_advances hP h hst (Bool.toNat_le _)
    | eval => exact .inl (capture_eval P hst ▸ evalStep_ended P b)
  have hc := cyclePorts_busy P hr h.ne_idle
  unfold Block.Advances at hcapture ⊢
  rw [hc.bounded_iff, hc.ticksLeft]
  exact hcapture.imp_left hc.ended

/-- Only EVAL has no tick left. -/
theorem Block.Bounded.eval_of_ticksLeft (h : b.Bounded P) (hzero : b.ticksLeft P = 0) : b.st = .eval := by
  have hwait : ∀ level, b.st ≠ waitState level := fun level hst => by
    obtain ⟨hp, hcount⟩ := (Block.bounded_wait hst).mp h
    have hleft := Block.ticksLeft_wait (P := P) (k := P.npulse - b.p.toNat - 1) hst (by omega) hcount
    omega
  cases hst : b.st with
  | idle => exact absurd hst h.ne_idle
  | waitHigh => exact absurd hst (hwait true)
  | measureLow => exact absurd hst (hwait false)
  | eval => rfl

/-- A read ends within its ticks and one cycle more. -/
theorem exists_prefix_ended (hP : P.Legal) {ins : List Inputs} {last : Inputs} (h : b.Bounded P)
    (hrs : ∀ inp ∈ ins, inp.rst = false) (hr : last.rst = false) (hticks : b.ticksLeft P ≤ tickCount ins) :
    ∃ pre, pre <+: (ins ++ [last]) ∧ (runPorts P b pre).Ended := by
  induction ins generalizing b with
  | nil =>
    have heval := h.eval_of_ticksLeft (Nat.le_zero.mp hticks)
    have hc := cyclePorts_busy P hr h.ne_idle
    rw [capture_eval P heval] at hc
    exact ⟨[last], List.prefix_rfl, hc.ended (evalStep_ended P b)⟩
  | cons inp ins ih =>
    obtain ⟨hr', hrs'⟩ := List.forall_mem_cons.mp hrs
    rw [tickCount_cons] at hticks
    rcases cyclePorts_advances hP h hr' with hend | ⟨hbounded, hleft⟩
    · exact ⟨[inp], by simp, hend⟩
    · obtain ⟨pre, hpre, hend⟩ := ih hbounded hrs' (by omega)
      exact ⟨inp :: pre, List.cons_prefix_cons.mpr ⟨rfl, hpre⟩, hend⟩

end Bounded

/-- What an accepted START leaves is bounded, with two waits of every pulse left. -/
theorem bounded_of_start {P : Params} {b : Block} (hst : b.st = .waitHigh) (hp : b.p = 0#8) (ht : b.t = 0#16)
    (hP : P.Legal) : b.Bounded P ∧ b.ticksLeft P = 2 * P.npulse * b.waitLimit := by
  have hsize : P.npulse = 8 * P.frameBytes := rfl
  have hpos : 0 < b.waitLimit := by unfold Block.waitLimit; omega
  constructor
  · simp only [Block.Bounded, hst, hp, ht, BitVec.toNat_ofNat]
    omega
  · simp [Block.ticksLeft, hst, hp, ht]

/-- Settles O21: the ticks left at START; and a wait without ticks lasts. -/
theorem everyReadEndsGivenTicks : Obligations.EveryReadEndsGivenTicks := by
  unfold Obligations.EveryReadEndsGivenTicks
  refine ⟨fun P b ins last hst hp ht hP hrs hr hticks => ?_, fun P b ins hin => ?_⟩
  · obtain ⟨hbounded, hleft⟩ := bounded_of_start hst hp ht hP
    exact exists_prefix_ended hP hbounded hrs hr (hleft ▸ hticks)
  · have hnone : tickCount ins = 0 := List.countP_eq_zero.mpr fun inp h => by simp [(hin inp h).2]
    have hlasts : ∀ level, b.st = waitState level → (∀ inp ∈ ins, inp.resp = level) →
        (runPorts P b ins).st = waitState level := fun level hst hls => by
      have hc := runPorts_wait P hst (fun inp h => ⟨(hin inp h).1, hls inp h⟩) (hnone ▸ Nat.zero_le _)
      exact hc.st.trans ((setCount_st _ _ _).trans hst)
    exact ⟨hlasts true, hlasts false⟩

/-! ## In clock cycles (60_exceptions.md R331) -/

/-- The timebase's strobes are the whole microseconds that have passed. -/
theorem countP_tickAt {P : Params} (h : P.LegalClock) (phase n : Nat) :
    (List.range n).countP (tickAt P phase) + usElapsed P phase 0 = usElapsed P phase n := by
  induction n with
  | zero => simp
  | succ n ih =>
    have hlast : List.countP (tickAt P phase) [n] = (tickAt P phase n).toNat := by
      cases ht : tickAt P phase n <;> simp [ht]
    rw [usElapsed_succ P phase n h, ← ih, List.range_succ, List.countP_append, hlast]
    omega

/-- Cycles that make up `us` microseconds hold that many ticks. -/
theorem le_tickCount_of_timebase {P : Params} {phase us : Nat} {ins : List Inputs} (hclock : P.LegalClock)
    (hbase : Timebase P phase ins) (hlen : us * P.fClkHz ≤ ins.length * 1000000) : us ≤ tickCount ins := by
  have hF : 0 < P.fClkHz := lt_of_lt_of_le (by decide) hclock
  have hticks := countP_tickAt hclock phase ins.length
  rw [← tickCount_eq_countP_range hbase] at hticks
  have hpassed : us + usElapsed P phase 0 ≤ usElapsed P phase ins.length := by
    unfold usElapsed
    rw [Nat.zero_mul, Nat.zero_add, Nat.add_comm, ← Nat.add_mul_div_right _ _ hF]
    exact Nat.div_le_div_right (by omega)
  omega

/-- Settles O55: so many microseconds hold so many ticks. -/
theorem everyReadEndsInItsTimeAtTheClock : Obligations.EveryReadEndsInItsTimeAtTheClock := by
  unfold Obligations.EveryReadEndsInItsTimeAtTheClock
  intro P b phase ins last hst hp ht hP hclock hrs hr hbase hlen
  exact everyReadEndsGivenTicks.1 P b ins last hst hp ht hP hrs hr (le_tickCount_of_timebase hclock hbase hlen)

end Sys2Proof.Machine
end

section
/-! Proofs about the validation of a frame (41_frame_validation.md): the verdict on a frame, the EVAL cycle, and the counters of
failed reads. -/

namespace Sys2Proof.Machine

/-! ## The verdict on a frame (R200 to R203) -/

theorem validate_of_short {P : Params} {frame : List Byte} (h : frame.length < P.frameBytes) :
    validate P frame = .noResponse := if_pos h

/-- A frame of full length fails by its preamble, then by its checksum, and otherwise passes with its payload. -/
theorem validate_of_whole {P : Params} {frame : List Byte} (h : P.frameBytes ≤ frame.length) :
    validate P frame =
      if preambleOk (frame.getD 0 0#8) = false then .preambleError
      else if checksumOk P frame = false then .checksumError
      else .ok (payloadOf P frame) := by
  simp only [validate, if_neg (Nat.not_lt.mpr h), Bool.not_eq_true']

theorem validate_eq_preambleError_iff {P : Params} {frame : List Byte} (h : P.frameBytes ≤ frame.length) :
    validate P frame = .preambleError ↔ preambleOk (frame.getD 0 0#8) = false := by
  rw [validate_of_whole h]
  cases preambleOk (frame.getD 0 0#8) <;> cases checksumOk P frame <;> simp

theorem validate_eq_checksumError_iff {P : Params} {frame : List Byte} (h : P.frameBytes ≤ frame.length)
    (hpre : preambleOk (frame.getD 0 0#8) = true) :
    validate P frame = .checksumError ↔ checksumOk P frame = false := by
  rw [validate_of_whole h, hpre]
  cases checksumOk P frame <;> simp

/-- The preamble mask keeps the high nibble, which is a division by 16 (R201). -/
theorem preambleOk_iff (b0 : Byte) : preambleOk b0 = true ↔ b0.toNat / 16 = 9 := by
  revert b0; decide

/-- Settles O22: the 256 preamble bytes, and the verdict of a frame of full length. -/
theorem preamblePassesIffHighNibbleIsNine : Obligations.PreamblePassesIffHighNibbleIsNine := by
  unfold Obligations.PreamblePassesIffHighNibbleIsNine
  refine ⟨preambleOk_iff, by decide, by decide, fun P frame h => ?_⟩
  rw [validate_eq_preambleError_iff h, ← Bool.not_eq_true, preambleOk_iff]

/-- The accumulator of R202, from any value on, adds the integer sum modulo 256. -/
theorem foldl_add_eq_ofNat_sum (payload : List Byte) (acc : Byte) :
    payload.foldl (fun s v => s + v) acc = acc + BitVec.ofNat 8 (payload.map BitVec.toNat).sum := by
  induction payload generalizing acc with
  | nil => simp
  | cons v payload ih =>
    rw [List.foldl_cons, ih, List.map_cons, List.sum_cons, BitVec.ofNat_add, BitVec.ofNat_toNat, BitVec.setWidth_eq,
      BitVec.add_assoc]

theorem checksumSum_toNat (payload : List Byte) :
    (checksumSum payload).toNat = (payload.map BitVec.toNat).sum % 256 := by
  rw [checksumSum, foldl_add_eq_ofNat_sum, BitVec.zero_add, BitVec.toNat_ofNat]

theorem checksumOk_iff (P : Params) (frame : List Byte) :
    checksumOk P frame = true ↔
      ((((payloadOf P frame).map BitVec.toNat).sum : Int) - (2 + ((frame.getD 1 0#8).toNat : Int))) % 256 = 0 := by
  have hwidth := (frame.getD 1 0#8).isLt
  rw [checksumOk, beq_iff_eq, BitVec.sub_eq_iff_eq_add, BitVec.zero_add, ← BitVec.toNat_inj, checksumSum_toNat,
    BitVec.toNat_add, BitVec.toNat_ofNat]
  omega

/-- Settles O23: the 8-bit sum is the integer sum modulo 256. -/
theorem checksumIsTheModulo256Comparison : Obligations.ChecksumIsTheModulo256Comparison := by
  unfold Obligations.ChecksumIsTheModulo256Comparison
  intro P frame
  refine ⟨checksumOk_iff P frame, fun h hpre => ?_⟩
  rw [validate_eq_checksumError_iff h hpre, ← Bool.not_eq_true, checksumOk_iff]

/-- A payload byte is the frame's byte two places on (R203). -/
theorem getD_payloadOf (P : Params) (frame : List Byte) {i : Nat} (hi : i < P.nseg) :
    (payloadOf P frame).getD i 0#8 = frame.getD (i + 2) 0#8 := by
  have hin : 2 + i < P.frameBytes := by
    unfold Params.nseg at hi
    omega
  rw [payloadOf, List.getD_eq_getElem?_getD, List.getElem?_drop, List.getElem?_take_of_lt hin, Nat.add_comm,
    ← List.getD_eq_getElem?_getD]

/-- Settles O24: the branches of `validate` in their order, and the payload byte by byte. -/
theorem verdictsComeInTheirOrder : Obligations.VerdictsComeInTheirOrder := by
  unfold Obligations.VerdictsComeInTheirOrder
  intro P frame
  refine ⟨validate_of_short, fun h hpre => (validate_eq_preambleError_iff h).mpr hpre,
    fun h hpre hck => (validate_eq_checksumError_iff h hpre).mpr hck, fun h hpre hck => ?ok⟩
  case ok =>
    have hv : validate P frame = .ok (payloadOf P frame) := by
      rw [validate_of_whole h, hpre, hck]
      rfl
    exact ⟨_, hv, validate_ok_length hv, fun i => getD_payloadOf P frame⟩

/-! ## The EVAL cycle (R204, R205) -/

theorem validate_ne_noResponse {P : Params} {frame : List Byte} (h : P.frameBytes ≤ frame.length) :
    validate P frame ≠ .noResponse := by
  rw [validate_of_whole h]
  split_ifs <;> simp

/-- A cycle of EVAL without reset or transaction is the EVAL step and the counters. -/
theorem cyclePorts_quiet_eval (P : Params) {b : Block} {inp : Inputs} (hst : b.st = .eval) (hr : inp.rst = false)
    (he : inp.busEn = false) : cyclePorts P b inp = commitCounters false b (evalStep P b).1 (evalStep P b).2 := by
  rw [cyclePorts_quiet P b hr he, capture_eval P hst]

/-- Settles O25: the EVAL step for each verdict and estimate, and the one counter that the outcome increments. -/
theorem evalEndsTheReadWithItsOutcome : Obligations.EvalEndsTheReadWithItsOutcome := by
  unfold Obligations.EvalEndsTheReadWithItsOutcome
  intro P b inp _ hst hlen hr he
  rw [cyclePorts_quiet_eval P hst hr he]
  refine ⟨fun hv => ?preamble, fun hv => ?checksum, fun payload hv hest => ?unsupported,
    fun payload L lvl base az g hv hest => ?level, validate_ne_noResponse hlen.ge⟩
  case preamble | checksum =>
    simp only [evalStep, hv, commitCounters, OutcomeCode.incs, counterNext_keep]
    rfl
  case unsupported | level =>
    simp only [evalStep, hv, hest]
    exact commitCounters_zero rfl rfl rfl

/-! ## The counters of failed reads (R206) -/

/-- Between `b` and `n` the read in flight ends, with RESULT.CODE `code`. -/
abbrev Block.EndsAs (b n : Block) (code : BitVec 3) : Prop := b.busy = true ∧ n.st = .idle ∧ n.resCode = code

/-- An outcome increments the counter of its code (30_encoding.md R104). -/
theorem OutcomeCode.incs_eq (code : OutcomeCode) :
    code.incs = { nr := code.code == 2#3, pre := code.code == 3#3, ck := code.code == 4#3 } := by
  cases code <;> rfl

/-- The capture part leaves a block whose read it does not end, counting nothing, or ends the read and counts its outcome. -/
theorem capture_counts (P : Params) (b : Block) (e : EnvPins) :
    ¬ (b.busy = true ∧ (capture P b e).1.st = .idle) ∧ (capture P b e).2 = Incs.zero ∨
    (b.busy = true ∧ (capture P b e).1.st = .idle) ∧
      ∃ code : OutcomeCode, (capture P b e).1.resCode = code.code ∧ (capture P b e).2 = code.incs := by
  rcases capture_cases P b e with
    ⟨h, -⟩ | ⟨-, -, h⟩ | ⟨hst, -, -, -, h⟩ | ⟨-, -, h⟩ | ⟨hst, -, -, -, h⟩ | ⟨hst, -, h⟩ | ⟨hst, h⟩ <;> rw [h]
  · exact .inl ⟨by simp [Block.busy], rfl⟩
  · exact .inl ⟨by simp, rfl⟩
  · exact .inl ⟨by simp [hst], rfl⟩
  · exact .inl ⟨by rw [endPulse_st]; split_ifs <;> simp, rfl⟩
  · exact .inl ⟨by simp [hst], rfl⟩
  · have hbusy : b.busy = true := by rcases hst with ⟨hst, -⟩ | ⟨hst, -⟩ <;> simp [Block.busy, hst]
    exact .inr ⟨⟨hbusy, rfl⟩, .noResponse, rfl, rfl⟩
  · have hbusy : b.busy = true := by simp [Block.busy, hst]
    rcases evalStep_cases P b with ⟨code, -, -, he⟩ | ⟨payload, L, lvl, base, az, g, -, -, he⟩ <;> rw [he]
    · exact .inr ⟨⟨hbusy, rfl⟩, code, rfl, rfl⟩
    · exact .inr ⟨⟨hbusy, rfl⟩, .ok, rfl, rfl⟩

/-- The increments of a cycle are those of the outcome with which its capture part ends a read. -/
theorem capture_incs (P : Params) (b : Block) (e : EnvPins) :
    (capture P b e).2 =
      { nr := decide (b.EndsAs (capture P b e).1 2#3), pre := decide (b.EndsAs (capture P b e).1 3#3),
        ck := decide (b.EndsAs (capture P b e).1 4#3) } := by
  rcases capture_counts P b e with ⟨hnot, hzero⟩ | ⟨⟨hbusy, hidle⟩, code, hcode, hincs⟩
  · have hnone : ∀ code, ¬ b.EndsAs (capture P b e).1 code := fun code h => hnot ⟨h.1, h.2.1⟩
    simp [hzero, hnone, Incs.zero]
  · simp [hincs, OutcomeCode.incs_eq, Block.EndsAs, hbusy, hidle, hcode, beq_eq_decide]

/-- The host cannot write the state and the outcome of a read in flight, so a cycle ends it as its capture part does. -/
theorem endsAs_cyclePorts_iff (P : Params) (b : Block) {inp : Inputs} (hr : inp.rst = false) (code : BitVec 3) :
    b.EndsAs (cyclePorts P b inp) code ↔ b.EndsAs (capture P b { resp := inp.resp, usTick := inp.usTick }).1 code := by
  refine and_congr_right fun hbusy => ?_
  have hb : b.st ≠ .idle := by simpa [Block.busy] using hbusy
  rw [(cyclePorts_busy P hr hb).st, (cyclePorts_busy P hr hb).resCode]

/-- A counter whose increment is the truth of `p`, as a number. -/
theorem counterNext_decide_toNat (clr : Bool) (c : BitVec 32) (p : Prop) [Decidable p] :
    (counterNext clr c (decide p)).toNat = min ((if clr then 0 else c.toNat) + if p then 1 else 0) (2 ^ 32 - 1) := by
  rw [counterNext_toNat]
  by_cases h : p <;> simp [h]

/-- Settles O26: the host's part writes no counter, so each is its `counterNext` with the increment of the capture part. -/
theorem countersCountFailedReadsAndSaturate : Obligations.CountersCountFailedReadsAndSaturate := by
  unfold Obligations.CountersCountFailedReadsAndSaturate
  intro P b inp hr
  have hends := endsAs_cyclePorts_iff P b hr
  have hcounters : cyclePorts P b inp = commitCounters inp.clearNow b (cyclePorts P b inp)
      { nr := decide (b.EndsAs (cyclePorts P b inp) 2#3), pre := decide (b.EndsAs (cyclePorts P b inp) 3#3),
        ck := decide (b.EndsAs (cyclePorts P b inp) 4#3) } := by
    simp only [hends, ← capture_incs]
    rw [cyclePorts_noReset P b inp hr]
    rfl
  refine ⟨?_, ?_, ?_⟩
  · exact (congrArg (fun n : Block => n.nrCnt.toNat) hcounters).trans (counterNext_decide_toNat ..)
  · exact (congrArg (fun n : Block => n.preCnt.toNat) hcounters).trans (counterNext_decide_toNat ..)
  · exact (congrArg (fun n : Block => n.ckCnt.toNat) hcounters).trans (counterNext_decide_toNat ..)

end Sys2Proof.Machine
end

section
/-! Proofs about the level mapping (42_level_mapping.md): the two extreme segments, what `estimate` answers, the closed form of
the raw level, and the integer datapath that computes the recorded level. -/

namespace Sys2Proof.Machine

/-! ## The extreme segments (R241, R242) -/

/-- `levelSegment` is the index of a nonzero segment. -/
theorem levelSegment_nonzero {payload : List Byte} (h : ∃ v ∈ payload, v ≠ 0#8) :
    ∃ hlt : levelSegment payload < payload.length, payload[levelSegment payload] ≠ 0#8 := by
  have hlt : levelSegment payload < payload.length :=
    List.findIdx_lt_length_of_exists (by simpa [segmentNonzero] using h)
  have hnz : segmentNonzero payload[levelSegment payload] = true := List.findIdx_getElem
  exact ⟨hlt, bne_iff_ne.mp hnz⟩

/-- No segment above `baseSegment` is nonzero. -/
theorem le_baseSegment {payload : List Byte} {i : Nat} (hi : i < payload.length) (h : payload[i] ≠ 0#8) :
    i ≤ baseSegment payload := by
  by_contra hlt
  have hbefore : payload.length - 1 - i < payload.reverse.findIdx segmentNonzero := by
    unfold baseSegment at hlt
    omega
  have hzero := List.not_of_lt_findIdx hbefore
  rw [List.getElem_reverse] at hzero
  have hindex : payload.length - 1 - (payload.length - 1 - i) = i := by omega
  simp only [hindex] at hzero
  exact h (by simpa [segmentNonzero] using hzero)

/-- Settles O27: the two scans stop at nonzero segments, and pass none. -/
theorem segmentsAreTheExtremeNonzeroOnes : Obligations.SegmentsAreTheExtremeNonzeroOnes := by
  unfold Obligations.SegmentsAreTheExtremeNonzeroOnes
  intro payload h
  obtain ⟨hB, hBnz⟩ := baseSegment_nonzero h
  obtain ⟨hLv, hLvnz⟩ := levelSegment_nonzero h
  rw [← List.getD_eq_getElem payload 0#8] at hBnz hLvnz
  have hmax : ∀ i, i < payload.length → payload.getD i 0#8 ≠ 0#8 → i ≤ baseSegment payload := fun i hi hnz =>
    le_baseSegment hi (List.getD_eq_getElem payload 0#8 hi ▸ hnz)
  have hmin : ∀ i, i < payload.length → payload.getD i 0#8 ≠ 0#8 → levelSegment payload ≤ i := fun i hi hnz =>
    levelSegment_le hi (List.getD_eq_getElem payload 0#8 hi ▸ hnz)
  refine ⟨⟨hB, hBnz, hmax⟩, ⟨hLv, hLvnz, hmin⟩, hmin _ hB hBnz, fun heq => ?one, fun ⟨i, _, _, honly⟩ => ?same⟩
  case one =>
    exact ⟨_, hB, hBnz, fun j hj hnz => le_antisymm (hmax j hj hnz) (heq ▸ hmin j hj hnz)⟩
  case same =>
    exact (honly _ hLv hLvnz).trans (honly _ hB hBnz).symm

/-! ## What `estimate` answers (R240) -/

theorem estimate_of_allZero (norm : AvgNorm) {payload : List Byte} (h : ∀ v ∈ payload, v = 0#8) (cal : Bool) :
    estimate norm payload cal = .level 0 0 0 true false :=
  if_pos (by simpa using h)

theorem estimate_calibrated (norm : AvgNorm) {payload : List Byte} (h : ∃ v ∈ payload, v ≠ 0#8) :
    estimate norm payload true = .unsupported :=
  if_neg (by simpa using h)

/-- Without calibration, a payload that is not all zero has the clamped raw level. -/
theorem estimate_uncalibrated (norm : AvgNorm) {payload : List Byte} (h : ∃ v ∈ payload, v ≠ 0#8) :
    estimate norm payload false =
      .level (clampLevel (rawLevel (levelRatio norm payload (baseSegment payload) (levelSegment payload)).1
          (baseSegment payload) (levelSegment payload)))
        (levelSegment payload) (baseSegment payload) false (tailGuard payload (levelSegment payload)) := by
  rw [← levelRatio_guard norm payload (baseSegment payload)]
  exact if_neg (by simpa using h)

/-- Settles O28: the all-zero test comes first, then the calibration test. -/
theorem allZeroComesBeforeCalibration : Obligations.AllZeroComesBeforeCalibration := by
  unfold Obligations.AllZeroComesBeforeCalibration
  exact fun norm payload => ⟨estimate_of_allZero norm,
    fun h => ⟨estimate_calibrated norm h, _, _, estimate_uncalibrated norm h⟩⟩

/-! ## The guard (R245) and the clamp (R247) -/

theorem tailGuard_eq_true_iff {payload : List Byte} {lv : Nat} :
    tailGuard payload lv = true ↔ tailCount payload lv = 0 ∨ tailSum payload lv = 0 := by
  simp [tailGuard]

theorem tailGuard_eq_false_iff {payload : List Byte} {lv : Nat} :
    tailGuard payload lv = false ↔ tailCount payload lv ≠ 0 ∧ tailSum payload lv ≠ 0 := by
  simp [tailGuard]

theorem levelRatio_of_guard (norm : AvgNorm) {payload : List Byte} (base : Nat) {lv : Nat}
    (hg : tailGuard payload lv = true) : (levelRatio norm payload base lv).1 = 1 := by
  rw [levelRatio, if_pos hg]

theorem levelRatio_of_not_guard (norm : AvgNorm) {payload : List Byte} (base : Nat) {lv : Nat}
    (hg : tailGuard payload lv = false) :
    (levelRatio norm payload base lv).1 = (reading payload lv : Rat) / avgReading norm payload base lv := by
  rw [levelRatio, if_neg (by simp [hg])]

theorem clampLevel_of_nonneg {raw : Rat} (h : 0 ≤ raw) : clampLevel raw = min raw 100 := by
  rw [clampLevel, max_eq_left h]

/-- One whole segment over the base is one segment's contribution, which is in range. -/
theorem clampLevel_rawLevel_one (base : Nat) : clampLevel (rawLevel 1 base base) = 100 / ((base : Rat) + 1) := by
  have hraw : rawLevel 1 base base = 100 / ((base : Rat) + 1) := by
    rw [rawLevel, contribution, sub_self, add_zero, one_mul]
  have hle : 100 / ((base : Rat) + 1) ≤ 100 := div_le_self (by norm_num) (by simp)
  rw [hraw, clampLevel_of_nonneg (by positivity), min_eq_left hle]

/-- Under the guard the level is that of one whole segment. -/
theorem estimate_of_guard (norm : AvgNorm) {payload : List Byte} (h : ∃ v ∈ payload, v ≠ 0#8)
    (hg : tailGuard payload (levelSegment payload) = true) :
    estimate norm payload false =
      .level (100 / ((baseSegment payload : Rat) + 1)) (levelSegment payload) (baseSegment payload) false true := by
  rw [estimate_uncalibrated norm h, levelRatio_of_guard norm _ hg, hg, levelSegment_eq_baseSegment_of_guard h hg,
    clampLevel_rawLevel_one]

/-- Settles O29: the two conditions of the guard, and the level under it. -/
theorem guardedLevelIsOneSegment : Obligations.GuardedLevelIsOneSegment := by
  unfold Obligations.GuardedLevelIsOneSegment
  refine fun norm payload h => ⟨fun hguard => ?guarded, fun hcount hsum => ?unguarded⟩
  case guarded =>
    have hg := tailGuard_eq_true_iff.mpr hguard
    exact ⟨levelSegment_eq_baseSegment_of_guard h hg, estimate_of_guard norm h hg⟩
  case unguarded =>
    have hg := tailGuard_eq_false_iff.mpr ⟨hcount, hsum⟩
    exact ⟨_, hg ▸ estimate_uncalibrated norm h⟩

/-! ## The closed form of the raw level (R246) -/

/-- Both normalisations divide the tail's sum by `k * (B + 1)`, with the `k` of R248. -/
theorem avgReading_eq (norm : AvgNorm) (payload : List Byte) (base lv : Nat) :
    avgReading norm payload base lv =
      (tailSum payload lv : Rat) / ((normFactor norm payload lv : Rat) * ((base : Rat) + 1)) := by
  cases norm with
  | mean => exact div_div ..
  | sum => rw [normFactor, Nat.cast_one, one_mul]; rfl

theorem rawLevel_closedForm (norm : AvgNorm) {payload : List Byte} (base : Nat) {lv : Nat}
    (hg : tailGuard payload lv = false) :
    rawLevel (levelRatio norm payload base lv).1 base lv =
      100 * (reading payload lv : Rat) * (normFactor norm payload lv : Rat) / (tailSum payload lv : Rat) +
        100 * ((base : Rat) - (lv : Rat)) / ((base : Rat) + 1) := by
  have hbase : (base : Rat) + 1 ≠ 0 := by positivity
  rw [levelRatio_of_not_guard norm base hg, avgReading_eq, rawLevel, contribution, div_div_eq_mul_div]
  field_simp

theorem rawLevel_nonneg (norm : AvgNorm) {payload : List Byte} {base lv : Nat} (hle : lv ≤ base)
    (hg : tailGuard payload lv = false) : 0 ≤ rawLevel (levelRatio norm payload base lv).1 base lv := by
  have hsub : (0 : Rat) ≤ (base : Rat) - (lv : Rat) := sub_nonneg.mpr (Nat.cast_le.mpr hle)
  rw [rawLevel_closedForm norm base hg]
  positivity

/-- Settles O30: the raw level without the guard is a sum of two nonnegative terms. -/
theorem unguardedLevelIsTheClosedForm : Obligations.UnguardedLevelIsTheClosedForm := by
  unfold Obligations.UnguardedLevelIsTheClosedForm
  rintro norm payload B Lv h rfl rfl hcount hsum
  have hg := tailGuard_eq_false_iff.mpr ⟨hcount, hsum⟩
  have hraw := rawLevel_nonneg norm (levelSegment_le_baseSegment h).1 hg
  refine ⟨_, rfl, ?closedForm, hraw, ?level⟩
  case closedForm =>
    rw [rawLevel_closedForm norm _ hg]
    cases norm with
    | mean => rfl
    | sum => rw [normFactor, Nat.cast_one]
  case level =>
    rw [estimate_uncalibrated norm h, hg, clampLevel_of_nonneg hraw]

/-! ## The range of a level and of its register value (R247) -/

theorem estimate_level_mem {norm : AvgNorm} {payload : List Byte} {cal : Bool} {L : Rat} {lvl base : Nat} {az g : Bool}
    (h : estimate norm payload cal = .level L lvl base az g) : 0 ≤ L ∧ L ≤ 100 := by
  rcases estimate_level_cases h with ⟨-, rfl, -⟩ | ⟨-, -, -, -, -, -, rfl⟩
  · norm_num
  · exact clampLevel_mem _

/-- The 15 bits hold the floor of a level in range without loss. -/
theorem levelBits_toNat {L : Rat} (h : 0 ≤ L ∧ L ≤ 100) : ((levelBits L).toNat : Int) = (L * 256).floor := by
  obtain ⟨hpos, hle⟩ := h
  have hnonneg : 0 ≤ (L * 256).floor := Rat.le_floor_iff.mpr (by push_cast; positivity)
  have hlt : (L * 256).floor < 25601 := Rat.floor_lt_iff.mpr (by push_cast; linarith)
  rw [levelBits, BitVec.toNat_ofNat, Nat.mod_eq_of_lt (by omega), Int.toNat_of_nonneg hnonneg]

/-- Settles O31: the clamp bounds the level, and the bound fits the register. -/
theorem levelsAreInRange : Obligations.LevelsAreInRange := by
  unfold Obligations.LevelsAreInRange
  intro norm payload cal L lvl base az g h
  have hL := estimate_level_mem h
  exact ⟨hL.1, hL.2, levelBits_toNat_le hL.2, levelBits_toNat hL⟩

/-! ## The integer datapath (R248) -/

/-- Dividing by the common denominator, the raw level in units of 1/256 is `num / den`. -/
theorem rawLevel_mul_256 (norm : AvgNorm) {payload : List Byte} {base lv : Nat} (hle : lv ≤ base)
    (hg : tailGuard payload lv = false) :
    rawLevel (levelRatio norm payload base lv).1 base lv * 256 =
      (levelNum norm payload base lv : Rat) / (levelDen payload base lv : Rat) := by
  have hsum : (tailSum payload lv : Rat) ≠ 0 := Nat.cast_ne_zero.mpr (tailGuard_eq_false_iff.mp hg).2
  have hbase : (base : Rat) + 1 ≠ 0 := by positivity
  rw [rawLevel_closedForm norm base hg, levelNum, levelDen]
  push_cast [hle]
  field_simp
  ring

/-- The floor commutes with the clamp, whose bound 25600 is an integer, and with division of naturals. -/
theorem floor_min_div (num den : Nat) :
    (min ((num : Rat) / (den : Rat)) 25600).floor = ((min (num / den) 25600 : Nat) : Int) := by
  have hfloor : ∀ x : Rat, x.floor = ⌊x⌋ := fun _ => rfl
  rw [hfloor, Int.floor_mono.map_min, Rat.floor_natCast_div_natCast, Nat.cast_min]
  rfl

/-- `levelQ` is the floor of the exact level that `estimate` answers. -/
theorem levelQ_eq_floor {norm : AvgNorm} {payload : List Byte} {L : Rat} {lvl base : Nat} {g : Bool}
    (h : estimate norm payload false = .level L lvl base false g) :
    (levelQ norm payload base lvl : Int) = (L * 256).floor := by
  obtain ⟨-, -, -, -, haz, -⟩ | ⟨hnz, -, rfl, rfl, -, -, rfl⟩ := estimate_level_cases h
  · cases haz
  cases hg : tailGuard payload (levelSegment payload) with
  | true =>
    have hscale : 100 / ((baseSegment payload : Rat) + 1) * 256 =
        ((25600 : Nat) : Rat) / ((baseSegment payload + 1 : Nat) : Rat) := by
      push_cast
      ring
    rw [levelQ, if_pos hg, levelRatio_of_guard norm _ hg, levelSegment_eq_baseSegment_of_guard hnz hg,
      clampLevel_rawLevel_one, hscale]
    exact (Rat.floor_natCast_div_natCast ..).symm
  | false =>
    have hle := (levelSegment_le_baseSegment hnz).1
    rw [levelQ, if_neg (by simp [hg]), clampLevel_of_nonneg (rawLevel_nonneg norm hle hg),
      min_mul_of_nonneg _ _ (by norm_num), rawLevel_mul_256 norm hle hg, ← floor_min_div]
    norm_num

/-- Settles O32: the datapath is the floor of the level, and so is what the 15 bits hold. -/
theorem integerDatapathComputesTheLevel : Obligations.IntegerDatapathComputesTheLevel := by
  unfold Obligations.IntegerDatapathComputesTheLevel
  intro norm payload L lvl base g h
  have hbits := levelBits_toNat (estimate_level_mem h)
  have hfloor := levelQ_eq_floor h
  exact ⟨hfloor, by omega⟩

/-! ## The width of the datapath (R249) -/

theorem reading_le (payload : List Byte) (i : Nat) : reading payload i ≤ 255 :=
  Nat.le_of_lt_succ (BitVec.isLt _)

theorem tailCount_le {payload : List Byte} {n : Nat} (h : payload.length ≤ n + 1) (lv : Nat) : tailCount payload lv ≤ n := by
  unfold tailCount
  omega

theorem length_tail (payload : List Byte) (lv : Nat) : (tail payload lv).length = tailCount payload lv := by
  rw [tail, tailCount, List.length_drop]
  omega

/-- Each element of the tail is a byte. -/
theorem tailSum_le (payload : List Byte) (lv : Nat) : tailSum payload lv ≤ tailCount payload lv * 255 := by
  have hbyte : ∀ x ∈ (tail payload lv).map BitVec.toNat, x ≤ 255 := by
    intro x hx
    obtain ⟨v, -, rfl⟩ := List.mem_map.mp hx
    exact Nat.le_of_lt_succ v.isLt
  simpa [length_tail, tailSum] using List.sum_le_card_nsmul _ 255 hbyte

theorem normFactor_le (norm : AvgNorm) {payload : List Byte} {lv n : Nat} (hn : 1 ≤ n) (h : tailCount payload lv ≤ n) :
    normFactor norm payload lv ≤ n := by
  cases norm with
  | mean => exact h
  | sum => exact hn

/-- Settles O33: the bounds of the terms, multiplied out. -/
theorem datapathFitsItsDivider : Obligations.DatapathFitsItsDivider := by
  unfold Obligations.DatapathFitsItsDivider
  intro norm payload hlen h
  have hreading := reading_le payload (levelSegment payload)
  have hcount := tailCount_le hlen (levelSegment payload)
  have hfactor := normFactor_le norm (by norm_num) hcount
  have hbase : baseSegment payload + 1 ≤ 14 := (Nat.succ_le_of_lt (levelSegment_le_baseSegment h).2).trans hlen
  have hsub : baseSegment payload - levelSegment payload ≤ 13 := by omega
  have hsum : tailSum payload (levelSegment payload) ≤ 13 * 255 :=
    (tailSum_le ..).trans (Nat.mul_le_mul_right _ hcount)
  refine ⟨hreading, hfactor, hbase, hsum, ?num, by norm_num, ?den, by norm_num⟩
  case num =>
    calc levelNum norm payload (baseSegment payload) (levelSegment payload)
        ≤ 25600 * (255 * 13 * 14 + 13 * (13 * 255)) := by unfold levelNum; gcongr
      _ = 2291328000 := by norm_num
  case den =>
    calc levelDen payload (baseSegment payload) (levelSegment payload)
        ≤ 13 * 255 * 14 := by unfold levelDen; gcongr
      _ = 46410 := by norm_num

/-! ## The golden scenario (95_test_vectors.md E6) -/

/-- Settles O34: the model computes each value of the scenario. -/
theorem goldenScenarioLevels : Obligations.GoldenScenarioLevels := by
  unfold Obligations.GoldenScenarioLevels
  decide +kernel

end Sys2Proof.Machine
end

section
/-! Proofs about the host operations (43_host_commands.md): the cycle of each kind of operation, said once against the capture
part alone, then the operations, and the words that the reads return. -/

namespace Sys2Proof.Machine

/-! ## A cycle against the capture part alone (40_pulse_capture.md R150) -/

section Cycle

variable {s : State} (hr : s.hostNow.rst = false)
include hr

/-- An operation that writes nothing, a read in particular, leaves the block as the capture part does. -/
theorem busCycle_skip (rdata : Option Word) :
    busCycle hostSkip false rdata s = .next (s.nextCycle s.quietBlock rdata) := by
  rw [busCycle_noReset _ _ _ _ hr, quietBlock_eq]

/-- A write whose effect is on IGN alone leaves everything else as the capture part does. -/
theorem writeCycle_ign {host : Block → Block → Block} {ign : Bool} (h : ∀ n, host s.block n = { n with ign := ign }) :
    writeCycle host s = .next (s.nextCycle { s.quietBlock with ign := ign } none) := by
  rw [writeCycle, busCycle_noReset _ _ _ _ hr, quietBlock_eq]
  simp only [Block.cycle, h]
  rfl

/-- A write on an IDLE block is all that its cycle does, if it leaves the counters alone. -/
theorem writeCycle_of_idle {host : Block → Block → Block} {n : Block} (hi : s.block.st = .idle)
    (h : host s.block s.block = n) (hnr : n.nrCnt = s.block.nrCnt) (hpre : n.preCnt = s.block.preCnt)
    (hck : n.ckCnt = s.block.ckCnt) : writeCycle host s = .next (s.nextCycle n none) := by
  rw [writeCycle, busCycle_noReset _ _ _ _ hr]
  simp only [Block.cycle, capture_idle _ hi, h, commitCounters_zero hnr hpre hck]

end Cycle

/-- A cleared counter whose increment is the truth of `p`. -/
theorem counterNext_clear_decide (c : BitVec 32) (p : Prop) [Decidable p] :
    counterNext true c (decide p) = if p then 1#32 else 0#32 := by
  simp only [counterNext_clear, decide_eq_true_eq]

/-- A clear makes each counter count this cycle alone, and changes nothing else of the cycle (43_host_commands.md R284). -/
theorem cycle_clear (P : Params) (b : Block) (e : EnvPins) :
    b.cycle P hostSkip true e = { b.cycle P hostSkip false e with
      nrCnt := if b.EndsAs (b.cycle P hostSkip false e) 2#3 then 1#32 else 0#32
      preCnt := if b.EndsAs (b.cycle P hostSkip false e) 3#3 then 1#32 else 0#32
      ckCnt := if b.EndsAs (b.cycle P hostSkip false e) 4#3 then 1#32 else 0#32 } := by
  simp only [Block.cycle, commitCounters, capture_incs, counterNext_clear_decide]
  rfl

/-! ## The commands (R282 to R285) -/

/-- Settles O35: the host effect of each is to write nothing. -/
theorem nopAndReadOnlyWritesDoNothing : Obligations.NopAndReadOnlyWritesDoNothing := by
  unfold Obligations.NopAndReadOnlyWritesDoNothing
  intro s hr
  exact ⟨busCycle_skip hr none, fun _ => busCycle_skip hr none, fun _ => busCycle_skip hr none⟩

/-- Settles O36: the accepted branch is `beginRead` of an IDLE block, the other one sets IGN. -/
theorem startBeginsAReadOrIsDropped : Obligations.StartBeginsAReadOrIsDropped := by
  unfold Obligations.StartBeginsAReadOrIsDropped
  intro s hr
  refine ⟨fun hi => ?idle, fun hb => ?busy⟩
  case idle =>
    rw [← List.map_const']
    exact writeCycle_of_idle hr hi (if_pos hi) rfl rfl rfl
  case busy => exact writeCycle_ign hr fun _ => if_neg hb

/-- Settles O37: a cycle that clears, against the one that does not. -/
theorem clearStatsZeroesTheCounters : Obligations.ClearStatsZeroesTheCounters := by
  unfold Obligations.ClearStatsZeroesTheCounters
  intro s hr
  have hcycle : exec .clearStats s = .next (s.nextCycle (s.block.cycle Config.params hostSkip true s.envNow) none) :=
    busCycle_noReset hostSkip true none s hr
  rw [hcycle, cycle_clear, ← quietBlock_eq]

/-- Settles O38: the seven rows have one meaning. -/
theorem reservedCommandsSetIgnOnly : Obligations.ReservedCommandsSetIgnOnly := by
  unfold Obligations.ReservedCommandsSetIgnOnly
  intro s cmd hr i hi
  have hreserved : exec i s = reservedCommand s := by
    simp only [List.mem_cons, List.not_mem_nil, or_false] at hi
    rcases hi with rfl | rfl | rfl | rfl | rfl | rfl | rfl <;> rfl
  rw [hreserved]
  exact writeCycle_ign hr fun _ => rfl

/-! ## The register writes (R286 to R288) -/

/-- Settles O39, by the two branches of `hostConfig`. -/
theorem configWriteIsTakenOnlyWhenIdle : Obligations.ConfigWriteIsTakenOnlyWhenIdle := by
  unfold Obligations.ConfigWriteIsTakenOnlyWhenIdle
  intro s deadline cal hr
  exact ⟨fun hi => writeCycle_of_idle hr hi (if_pos hi) rfl rfl rfl, fun hb => writeCycle_ign hr fun _ => if_neg hb⟩

/-- Settles O40, by the two branches of `hostThresh`. -/
theorem threshWriteIsTakenOnlyWhenIdle : Obligations.ThreshWriteIsTakenOnlyWhenIdle := by
  unfold Obligations.ThreshWriteIsTakenOnlyWhenIdle
  intro s thresh hr
  exact ⟨fun hi => writeCycle_of_idle hr hi (if_pos hi) rfl rfl rfl, fun hb => writeCycle_ign hr fun _ => if_neg hb⟩

/-- Settles O41: bit 2 set writes IGN alone, bit 2 clear writes nothing. -/
theorem statusWriteClearsIgnOnly : Obligations.StatusWriteClearsIgnOnly := by
  unfold Obligations.StatusWriteClearsIgnOnly
  intro s hr
  exact ⟨writeCycle_ign hr fun _ => rfl, busCycle_skip hr none⟩

/-! ## The words that the reads return (R281, 10_state.md R44 to R52) -/

/-- A concatenation as a number, in the form that `omega` takes. -/
theorem toNat_append_eq_add {m n : Nat} (x : BitVec m) (y : BitVec n) :
    (x ++ y).toNat = 2 ^ n * x.toNat + y.toNat := by
  rw [BitVec.toNat_append, ← Nat.shiftLeft_add_eq_or_of_lt y.isLt, Nat.shiftLeft_eq, Nat.mul_comm]

theorem statusWord_toNat (b : Block) : (statusWord b).toNat =
    b.busy.toNat + 2 * b.done.toNat + 4 * b.ign.toNat + 16 * b.st.code.toNat + 256 * b.p.toNat := by
  simp only [statusWord, BitVec.toNat_cast, toNat_append_eq_add, BitVec.toNat_ofBool, BitVec.toNat_ofNat]
  omega

theorem configWord_toNat (b : Block) : (configWord b).toNat = b.cfgDeadline.toNat + 2 ^ 16 * b.cfgCal.toNat := by
  have hdeadline := b.cfgDeadline.isLt
  have hcal : b.cfgCal.toNat ≤ 1 := Bool.toNat_le _
  rw [configWord_eq_ofNat, BitVec.toNat_ofNat]
  omega

theorem threshWord_toNat (b : Block) : (threshWord b).toNat = b.cfgThresh.toNat := by
  rw [threshWord_eq_setWidth, BitVec.toNat_setWidth_of_le (by decide)]

theorem resultWord_toNat (b : Block) : (resultWord b).toNat =
    b.resCode.toNat + 16 * b.resLvl.toNat + 256 * b.resBase.toNat + 2 ^ 12 * b.resAllzero.toNat +
      2 ^ 13 * b.resGuard.toNat := by
  simp only [resultWord, BitVec.toNat_cast, toNat_append_eq_add, BitVec.toNat_ofBool, BitVec.toNat_ofNat]
  omega

theorem levelWord_toNat (b : Block) : (levelWord b).toNat = b.levelQ.toNat := by
  simp only [levelWord, BitVec.toNat_cast, toNat_append_eq_add, BitVec.toNat_ofNat]
  omega

/-- FRAMEk holds frame bytes `4k` to `4k + 3`, the first in its low byte (30_encoding.md R109). -/
theorem extractLsb'_frameWord (b : Block) (k : Nat) {j : Nat} (hj : j < 4) :
    (frameWord b k).extractLsb' (8 * j) 8 = frameByte b (4 * k + j) := by
  rw [frameWord, BitVec.extractLsb'_cast]
  match j, hj with
  | 0, _ => exact BitVec.extractLsb'_append_eq_right
  | 1, _ =>
    rw [BitVec.extractLsb'_append_eq_of_le (by decide)]
    exact BitVec.extractLsb'_append_eq_right
  | 2, _ =>
    rw [BitVec.extractLsb'_append_eq_of_le (by decide), BitVec.extractLsb'_append_eq_of_le (by decide)]
    exact BitVec.extractLsb'_append_eq_right
  | 3, _ =>
    rw [BitVec.extractLsb'_append_eq_of_le (by decide), BitVec.extractLsb'_append_eq_of_le (by decide)]
    exact BitVec.extractLsb'_append_eq_left

/-- Settles O42: each read writes nothing, and its word has the number of its fields. -/
theorem readsReturnStatusConfigurationAndResult : Obligations.ReadsReturnStatusConfigurationAndResult := by
  unfold Obligations.ReadsReturnStatusConfigurationAndResult
  intro s hr
  have hread := busCycle_skip hr
  exact ⟨statusWord s.block, configWord s.block, threshWord s.block, resultWord s.block, levelWord s.block,
    hread _, statusWord_toNat _, hread _, configWord_toNat _, hread _, threshWord_toNat _, hread _, resultWord_toNat _,
    hread _, levelWord_toNat _⟩

/-- Settles O43: each read writes nothing, and the bytes of a frame word are bytes of the frame buffer. -/
theorem readsReturnCountersParamAndFrame : Obligations.ReadsReturnCountersParamAndFrame := by
  unfold Obligations.ReadsReturnCountersParamAndFrame
  intro s hr
  have hread := busCycle_skip hr
  refine ⟨hread _, hread _, hread _, hread _, hread _, hread _, hread _, frameWord s.block 0, frameWord s.block 1,
    frameWord s.block 2, frameWord s.block 3, hread _, hread _, hread _, hread _, fun j hj => ?frame0, fun j hj => ?frame1,
    fun j hj => ?frame2, fun j hj => ?frame3⟩
  case frame0 => simpa [frameByte] using extractLsb'_frameWord s.block 0 hj
  case frame1 => exact extractLsb'_frameWord s.block 1 hj
  case frame2 => exact extractLsb'_frameWord s.block 2 hj
  case frame3 => exact extractLsb'_frameWord s.block 3 hj

end Sys2Proof.Machine
end

section
/-! Proofs about the exceptions (60_exceptions.md): the timebase's strobes, the one cycle of every access, and the result codes
that no state shows. -/

namespace Sys2Proof.Machine

/-! ## The timebase (60_exceptions.md R331) -/

/-- Two cycles of a legal clock hold at most one microsecond (00_scope.md R5). -/
theorem usElapsed_add_two_le {P : Params} (h : P.LegalClock) (phase n : Nat) :
    usElapsed P phase (n + 1 + 1) ≤ usElapsed P phase n + 1 := by
  have hF : 2000000 ≤ P.fClkHz := h
  unfold usElapsed
  rw [← Nat.add_div_right _ (by omega)]
  exact Nat.div_le_div_right (by omega)

/-- A strobe is one cycle wide: two in a row would end two microseconds. -/
theorem tickAt_succ_eq_false {P : Params} (h : P.LegalClock) {phase n : Nat} (ht : tickAt P phase n = true) :
    tickAt P phase (n + 1) = false := by
  have htwo := usElapsed_add_two_le h phase n
  rw [tickAt, decide_eq_true_iff] at ht
  rw [tickAt, decide_eq_false_iff_not]
  omega

/-- At `K` cycles a microsecond, the whole microseconds are the `K`-th parts of the cycles, counted from the phase's. -/
theorem usElapsed_of_whole {P : Params} {K : Nat} (h : P.fClkHz = K * 1000000) (phase n : Nat) :
    usElapsed P phase n = (n + phase / 1000000) / K := by
  rw [usElapsed, h, Nat.mul_comm K, ← Nat.div_div_eq_div_mul, Nat.mul_comm n, Nat.mul_add_div (by decide)]

/-- At `K` cycles a microsecond the strobes are the multiples of `K`, counted from the phase's cycle. -/
theorem tickAt_of_whole {P : Params} {K : Nat} (h : P.fClkHz = K * 1000000) (phase n : Nat) :
    tickAt P phase n = decide ((n + 1 + phase / 1000000) % K = 0) := by
  rw [tickAt, usElapsed_of_whole h, usElapsed_of_whole h, Nat.add_right_comm n 1, Nat.succ_div, decide_eq_decide,
    ← Nat.dvd_iff_mod_eq_zero]
  split_ifs with hdvd <;> simp [hdvd]

/-- Settles O54: the strobes are counted by the microseconds, and placed by the division by `K`. -/
theorem timebaseStrobesOncePerMicrosecond : Obligations.TimebaseStrobesOncePerMicrosecond := by
  unfold Obligations.TimebaseStrobesOncePerMicrosecond
  exact ⟨params_legal.2, fun _ phase n h => ⟨countP_tickAt h phase n, tickAt_succ_eq_false h⟩,
    fun _ phase _ n _ h => tickAt_of_whole h phase n⟩

/-! ## The one cycle of an access (60_exceptions.md R332) -/

/-- A cycle of the machine always answers, reset or not, and the next one is the next number. -/
theorem busCycle_answers (host : Block → Block → Block) (clr : Bool) (rdata : Option Word) (s : State) :
    ∃ t, busCycle host clr rdata s = .next t ∧ t.cycleNo = s.cycleNo + 1 :=
  ⟨_, rfl, State.nextCycle_cycleNo ..⟩

/-- Settles O8: every operation and every step is a cycle of the machine. -/
theorem everyAccessCompletesInOneCycle : Obligations.EveryAccessCompletesInOneCycle := by
  unfold Obligations.EveryAccessCompletesInOneCycle
  refine ⟨fun i s => ?exec, fun s => ?step⟩
  case exec =>
    obtain ⟨rdata, h⟩ := exec_eq_busCycle i s
    exact h ▸ busCycle_answers ..
  case step =>
    obtain ⟨host, clr, rdata, h⟩ := step_eq_busCycle s
    exact h ▸ busCycle_answers ..

/-! ## The reserved result codes (93_implementation_defined.md I14) -/

theorem consistencyCheck_eq_none_iff (b : Block) : consistencyCheck b = none ↔ b.resCode.toNat ≤ 5 := by
  have hreserved : b.resCode.toNat ≤ 5 ↔ ¬ 6#3 ≤ b.resCode := by
    rw [BitVec.not_le]
    exact Nat.lt_succ_iff.symm
  rw [hreserved]
  unfold consistencyCheck
  split_ifs with h <;> simp [h]

/-- Settles O47: the invariant bounds the code by 5. -/
theorem consistencyCheckPasses : Obligations.ConsistencyCheckPasses := by
  unfold Obligations.ConsistencyCheckPasses
  exact fun s h => (consistencyCheck_eq_none_iff s.block).mpr h.codeBound

end Sys2Proof.Machine
end

section
/-! Proofs about reset and the hazards of shared state (70_reset_and_hazards.md): the cycle with reset, the block that is not
busy, the read in flight against the host, and the sensor's answer after START. -/

namespace Sys2Proof.Machine

/-- BUSY is the state not being IDLE (10_state.md R44). -/
theorem Block.busy_iff (b : Block) : b.busy = true ↔ b.st ≠ .idle := bne_iff_ne

theorem Block.busy_eq_false_iff (b : Block) : b.busy = false ↔ b.st = .idle := bne_eq_false_iff_eq

/-! ## Reset (R360) -/

/-- Settles O10: the step is the cycle over the ports, and its block is the reset one. -/
theorem resetOverridesTheCycle : Obligations.ResetOverridesTheCycle := by
  unfold Obligations.ResetOverridesTheCycle
  intro s hr
  refine ⟨_, stepIsTheCycleOverThePorts s, ?_⟩
  have hreset : cyclePorts Config.params s.block s.inputsNow = Block.reset Config.params := cyclePorts_reset _ _ _ hr
  rw [State.nextCycle_block, State.nextCycle_busRdata, hreset]
  exact ⟨rfl, rfl, rfl, rfl, rfl, rfl, rfl, rfl, rfl, rfl⟩

/-! ## The block that is not busy (R361, R367) -/

/-- Settles O11: nothing is captured, nothing is written and nothing is counted. -/
theorem idleBlockKeepsEverything : Obligations.IdleBlockKeepsEverything := by
  unfold Obligations.IdleBlockKeepsEverything
  intro P b inp hi hr he
  rw [cyclePorts_quiet P b hr he, capture_idle P hi, commitCounters_keep]

section Start

variable {s t : State} {tw : TransWord} (h : step s = .next t)
include h

/-- A START on an IDLE block begins a read, and does nothing else (43_host_commands.md R283). -/
theorem step_block_of_start_idle (hr : s.hostNow.rst = false) (hi : s.block.st = .idle) (ha : s.hostNow.access = some tw)
    (hd : decode tw = .start) : t.block = beginRead s.block := by
  rw [step_of_access ha, hd] at h
  rw [exec_block_of_idle_keepCounters h hr hi (by simp), hostEffect, hostStart, if_pos hi]

/-- A START on a busy block sets IGN beside what the capture part does (43_host_commands.md R283). -/
theorem step_block_of_start_busy (hr : s.hostNow.rst = false) (hb : s.block.st ≠ .idle) (ha : s.hostNow.access = some tw)
    (hd : decode tw = .start) : t.block = { s.quietBlock with ign := true } := by
  rw [step_of_access ha, hd, (startBeginsAReadOrIsDropped s hr).2 hb] at h
  cases h
  rfl

/-- An IDLE block leaves IDLE by a START without reset, and in no other way. -/
theorem step_leaves_idle_iff (hi : s.block.st = .idle) :
    t.block.st ≠ .idle ↔ s.hostNow.rst = false ∧ ∃ tw, s.hostNow.access = some tw ∧ decode tw = .start := by
  cases hr : s.hostNow.rst with
  | true => simp [step_block_of_reset h hr]
  | false =>
    by_cases hstart : ∃ tw, s.hostNow.access = some tw ∧ decode tw = .start
    · obtain ⟨tw, ha, hd⟩ := hstart
      simp [step_block_of_start_idle h hr hi ha hd, ha, hd]
    · obtain ⟨clr, ign, deadline, cal, thresh, e, -⟩ :=
        step_block_of_idle h hr hi fun tw ha hd => hstart ⟨tw, ha, hd⟩
      simp [e, hi, hstart]

end Start

/-- Settles O48: how an IDLE block leaves IDLE, and START on either block. -/
theorem onlyStartMakesTheBlockBusy : Obligations.OnlyStartMakesTheBlockBusy := by
  unfold Obligations.OnlyStartMakesTheBlockBusy
  intro s t h
  simp only [Block.busy_iff, Block.busy_eq_false_iff]
  refine ⟨fun hi => step_leaves_idle_iff h hi, fun hi hr tw ha hd => ?accepted, fun hb hr tw ha hd => ?dropped⟩
  case accepted =>
    rw [step_block_of_start_idle h hr hi ha hd]
    exact ⟨beginRead_st _, beginRead_ign _⟩
  case dropped => exact step_block_of_start_busy h hr hb ha hd

/-! ## The read in flight (R365, R366, R370) -/

theorem Block.CapturedAs.symm {b n : Block} (h : b.CapturedAs n) : n.CapturedAs b := by
  obtain ⟨ign, nr, pre, ck, rfl⟩ := h
  exact ⟨n.ign, n.nrCnt, n.preCnt, n.ckCnt, rfl⟩

theorem Block.CapturedAs.resultWord {b n : Block} (h : b.CapturedAs n) : resultWord b = resultWord n := by
  obtain ⟨ign, nr, pre, ck, rfl⟩ := h
  rfl

theorem Block.CapturedAs.levelQ {b n : Block} (h : b.CapturedAs n) : b.levelQ = n.levelQ := by
  obtain ⟨ign, nr, pre, ck, rfl⟩ := h
  rfl

/-- A step without reset of a read in flight is its capture part, whatever the host presents. -/
theorem step_busy_capturedAs {s t : State} (h : step s = .next t) (hb : s.block.st ≠ .idle) (hr : s.hostNow.rst = false) :
    t.block.CapturedAs (capture Config.params s.block s.envNow).1 := by
  rw [stepIsTheCycleOverThePorts s] at h
  cases h
  exact cyclePorts_busy Config.params (inp := s.inputsNow) hr hb

/-- Settles O51: both blocks are that of one capture part, but for IGN and the counters. -/
theorem hostCannotDisturbAReadInFlight : Obligations.HostCannotDisturbAReadInFlight := by
  unfold Obligations.HostCannotDisturbAReadInFlight
  intro s t s' t' hblock henv hbusy hrs hrt hs ht
  have hb : s.block.st ≠ .idle := (Block.busy_iff _).mp hbusy
  have hcs := step_busy_capturedAs hs hb hrs
  have hct := step_busy_capturedAs ht (hblock ▸ hb) hrt
  rw [← hblock, ← henv] at hct
  have hc : s'.block.CapturedAs t'.block := hcs.trans hct.symm
  exact ⟨hc.st, hc.p, hc.w, hc.t, hc.fb, hc.done, hc.resultWord, hc.levelQ⟩

/-- Settles O53: DONE is 0, so RESULT.CODE is NONE, and no other outcome than OK has a level. -/
theorem busyBlockShowsNoResult : Obligations.BusyBlockShowsNoResult := by
  unfold Obligations.BusyBlockShowsNoResult
  intro s hinv hbusy
  have hdone : s.block.done = false := hinv.busyNotDone ((Block.busy_iff _).mp hbusy)
  have hcode : s.block.resCode = 0#3 := by
    by_contra hne
    exact absurd (hinv.doneCode.mpr hne) (by simp [hdone])
  obtain ⟨hlevel, hlvl, hbase, hallzero, hguard⟩ := hinv.onlyOkHasLevel (by simp [hcode, OutcomeCode.code])
  rw [resultWord, levelWord, hcode, hlevel, hlvl, hbase, hallzero, hguard]
  decide

/-! ## The sensor's answer after START (R369, 40_pulse_capture.md R155) -/

/-- The first low cycle of a wait for it begins the measurement of the pulse, whatever the host presents. -/
theorem cyclePorts_waitHigh_low (P : Params) {b : Block} {inp : Inputs} (hst : b.st = .waitHigh) (hr : inp.rst = false)
    (hl : inp.resp = false) : (cyclePorts P b inp).CapturedAs { b with st := .measureLow, w := 0#16 } := by
  have hc := cyclePorts_busy P hr (b := b) (by simp [hst])
  rwa [capture_waitHigh_low P hst hl] at hc

/-- A run with more than `n` ticks has a cycle with a tick that comes after `n` of them. -/
theorem exists_prefix_to_tick {n : Nat} {ins : List Inputs} (h : n < tickCount ins) :
    ∃ pre last, pre ++ [last] <+: ins ∧ last.usTick = true ∧ tickCount pre = n := by
  induction ins generalizing n with
  | nil => exact absurd h (Nat.not_lt_zero n)
  | cons inp ins ih =>
    rw [tickCount_cons] at h
    by_cases hnow : inp.usTick = true ∧ n = 0
    · exact ⟨[], inp, List.prefix_append [inp] ins, hnow.1, hnow.2.symm⟩
    · have hcount : inp.usTick.toNat ≤ n := by
        cases ht : inp.usTick with
        | false => exact Nat.zero_le n
        | true => exact Nat.one_le_iff_ne_zero.mpr fun hn => hnow ⟨ht, hn⟩
      obtain ⟨pre, last, hpre, ht, hn⟩ := ih (n := n - inp.usTick.toNat) (by omega)
      exact ⟨inp :: pre, last, List.cons_prefix_cons.mpr ⟨rfl, hpre⟩, ht, by rw [tickCount_cons, hn]; omega⟩

/-- The low cycle that follows a high line of fewer ticks than the limit's begins the measurement of pulse 0. -/
theorem runPorts_first_low {P : Params} {b : Block} {ins : List Inputs} {next : Inputs} (hst : b.st = .waitHigh)
    (ht : b.t = 0#16) (hin : ∀ inp ∈ ins, inp.rst = false ∧ inp.resp = true) (hfew : tickCount ins < b.waitLimit)
    (hr : next.rst = false) (hl : next.resp = false) :
    (runPorts P b (ins ++ [next])).st = .measureLow ∧ (runPorts P b (ins ++ [next])).p = b.p ∧
      (runPorts P b (ins ++ [next])).w = 0#16 := by
  have hzero : b.waitCount true = 0#16 := ht
  have hwait := runPorts_wait P (level := true) hst hin (by rw [hzero]; exact Nat.le_sub_one_of_lt hfew)
  have hlow := cyclePorts_waitHigh_low P (hwait.st.trans ((setCount_st _ _ _).trans hst)) hr hl
  rw [runPorts_concat]
  exact ⟨hlow.st, hlow.p.trans (hwait.p.trans (setCount_p _ _ _)), hlow.w⟩

/-- A line that stays high for the limit's ticks ends the read in NO_RESPONSE, at the pulse it waited for. -/
theorem runPorts_high_fails {P : Params} {b : Block} {ins : List Inputs} (hst : b.st = .waitHigh) (ht : b.t = 0#16)
    (hin : ∀ inp ∈ ins, inp.rst = false ∧ inp.resp = true) (hmany : b.waitLimit ≤ tickCount ins) :
    ∃ pre, pre <+: ins ∧ (runPorts P b pre).st = .idle ∧ (runPorts P b pre).done = true ∧
      (runPorts P b pre).resCode = OutcomeCode.noResponse.code ∧ (runPorts P b pre).p = b.p := by
  have hpos : 1 ≤ b.waitLimit := le_max_right _ _
  obtain ⟨pre, last, hpre, htick, hcount⟩ := exists_prefix_to_tick (n := b.waitLimit - 1) (ins := ins) (by omega)
  have hin' : ∀ inp ∈ pre ++ [last], inp.rst = false ∧ inp.resp = true := fun inp h => hin inp (hpre.subset h)
  obtain ⟨hr, hl⟩ := hin' last (by simp)
  obtain ⟨-, hidle, hdone, hcode, hp, -⟩ := wait_lasts_then_fails P (level := true) hst ht
    (fun inp h => hin' inp (List.mem_append_left _ h)) hr hl htick (by omega)
  exact ⟨pre ++ [last], hpre, hidle, hdone, hcode, hp⟩

/-- Settles O56: within the window the line is high until the sensor's delay, which a covering deadline leaves below the
wait's limit. -/
theorem firstPulseNeedsTheWindowAndTheDeadline : Obligations.FirstPulseNeedsTheWindowAndTheDeadline := by
  unfold Obligations.FirstPulseNeedsTheWindowAndTheDeadline
  intro P b r ins next hst hp ht hrs hr
  rw [← hp]
  refine ⟨fun hwindow hbefore hcovers hl => ?answer, fun hwindow hbefore hmany => ?silence, fun hl => ?atOnce⟩
  case answer =>
    obtain ⟨hhigh, hdelay⟩ := hbefore hwindow
    obtain ⟨d, hd, hlt⟩ := (Selection.deadlineCovers_iff r b).mp hcovers
    have hfew : tickCount ins < b.waitLimit := by
      have hticks := hdelay d hd
      unfold Block.waitLimit
      omega
    exact runPorts_first_low hst ht (fun inp h => ⟨hrs inp h, hhigh inp h⟩) hfew hr hl
  case silence =>
    obtain ⟨hhigh, -⟩ := hbefore hwindow
    exact runPorts_high_fails hst ht (fun inp h => ⟨hrs inp h, hhigh inp h⟩) hmany
  case atOnce => exact runPorts_first_low (ins := []) hst ht (by simp) (lt_max_of_lt_right Nat.one_pos) hr hl

end Sys2Proof.Machine
end
